-- ==== Sys2Proof/Word.lean ====
section
/-! DEFINITION. The Word of the Hack machine and its two readings (spec 00_scope.md R7, R8; 10_state.md R20). -/

namespace Sys2Proof

/-- R20: "A Word is a 16-bit two's-complement value": every register but PC, every RAM cell and every ROM cell. -/
abbrev Word := BitVec 16

/-- R23: the program counter holds an Instruction Store index in [0, 32768), 15 bits of index. -/
abbrev RomIndex := BitVec 15

/-- One byte of a program image file (R411, R412). The machine itself has no bytes (R51, R59). -/
abbrev Byte := BitVec 8

/-- R8: `sint(w)` reads a Word as two's-complement, in [-32768, 32767]. -/
abbrev sint (w : Word) : Int := w.toInt

/-- R8: `uint(w)` reads a Word as unsigned, in [0, 65535]. -/
abbrev uint (w : Word) : Nat := w.toNat

end Sys2Proof
end

