-- ==== Sys2Proof/Syntax.lean ====
section
/-! DEFINITION. The instructions: one constructor for each of the 129 rows of spec/opcode_table.json
(30_encoding.md R91 to R96). A C-instruction's constructor is named as the raw notation of R103 names its row. -/

namespace Sys2Proof

/-- The dest field, w[5:3] (R93, R250 to R257): any subset of A, D, M. -/
structure Dest where
  /-- dA = w[5]: store to A. -/
  toA : Bool
  /-- dD = w[4]: store to D. -/
  toD : Bool
  /-- dM = w[3]: store to M, the RAM word at the pre-instruction A. -/
  toM : Bool
  deriving DecidableEq, Repr

/-- The jump field, w[2:0] (R93, R260 to R267; 90_conflicts.md C1): any subset of the three conditions. -/
structure Jump where
  /-- jLT = w[2]: fires iff sint(out) < 0. -/
  lt : Bool
  /-- jEQ = w[1]: fires iff out = 0. -/
  eq : Bool
  /-- jGT = w[0]: fires iff sint(out) > 0. -/
  gt : Bool
  deriving DecidableEq, Repr

/-- The comp field, w[11:6]: the six control bits of the ALU (R93, R143 to R148). -/
structure Ctrl where
  /-- zx = w[11]. -/
  zx : Bool
  /-- nx = w[10]. -/
  nx : Bool
  /-- zy = w[9]. -/
  zy : Bool
  /-- ny = w[8]. -/
  ny : Bool
  /-- f = w[7]. -/
  f : Bool
  /-- no = w[6]. -/
  no : Bool
  deriving DecidableEq, Repr

/-- One instruction. `atV` carries the decoder's 16-bit literal output (R107), which an encodable instruction has
in [0, 32767] (R94; WellFormed.lean checks it). A C-instruction carries `u` = w[14:13], which its effect ignores
(R97) and the fault record's word keeps (R301), its dest field `d` and its jump field `j`. -/
inductive Instr where
  /-- `@v`: R130, load the literal into A. -/
  | atV (literal : Word)
  /-- `[dest=]D&A[;jump]`: R180 with a = 0; out = D & y. -/
  | a0c000000 (u : BitVec 2) (d : Dest) (j : Jump)
  /-- `[dest=]#a0c000001[;jump]`: R181 with a = 0; out = ~(D & y). -/
  | a0c000001 (u : BitVec 2) (d : Dest) (j : Jump)
  /-- `[dest=]D+A[;jump]`: R182 with a = 0; out = D + y. -/
  | a0c000010 (u : BitVec 2) (d : Dest) (j : Jump)
  /-- `[dest=]#a0c000011[;jump]`: R183 with a = 0; out = -D - y - 1. -/
  | a0c000011 (u : BitVec 2) (d : Dest) (j : Jump)
  /-- `[dest=]#a0c000100[;jump]`: R184 with a = 0; out = D & ~y. -/
  | a0c000100 (u : BitVec 2) (d : Dest) (j : Jump)
  /-- `[dest=]#a0c000101[;jump]`: R185 with a = 0; out = ~D | y. -/
  | a0c000101 (u : BitVec 2) (d : Dest) (j : Jump)
  /-- `[dest=]#a0c000110[;jump]`: R186 with a = 0; out = D - y - 1. -/
  | a0c000110 (u : BitVec 2) (d : Dest) (j : Jump)
  /-- `[dest=]A-D[;jump]`: R187 with a = 0; out = y - D. -/
  | a0c000111 (u : BitVec 2) (d : Dest) (j : Jump)
  /-- `[dest=]#a0c001000[;jump]`: R188 with a = 0; out = 0x0000. -/
  | a0c001000 (u : BitVec 2) (d : Dest) (j : Jump)
  /-- `[dest=]#a0c001001[;jump]`: R189 with a = 0; out = 0xFFFF (-1). -/
  | a0c001001 (u : BitVec 2) (d : Dest) (j : Jump)
  /-- `[dest=]#a0c001010[;jump]`: R190 with a = 0; out = D. -/
  | a0c001010 (u : BitVec 2) (d : Dest) (j : Jump)
  /-- `[dest=]#a0c001011[;jump]`: R191 with a = 0; out = ~D. -/
  | a0c001011 (u : BitVec 2) (d : Dest) (j : Jump)
  /-- `[dest=]D[;jump]`: R192 with a = 0; out = D. -/
  | a0c001100 (u : BitVec 2) (d : Dest) (j : Jump)
  /-- `[dest=]!D[;jump]`: R193 with a = 0; out = ~D. -/
  | a0c001101 (u : BitVec 2) (d : Dest) (j : Jump)
  /-- `[dest=]D-1[;jump]`: R194 with a = 0; out = D - 1. -/
  | a0c001110 (u : BitVec 2) (d : Dest) (j : Jump)
  /-- `[dest=]-D[;jump]`: R195 with a = 0; out = -D. -/
  | a0c001111 (u : BitVec 2) (d : Dest) (j : Jump)
  /-- `[dest=]#a0c010000[;jump]`: R196 with a = 0; out = ~D & y. -/
  | a0c010000 (u : BitVec 2) (d : Dest) (j : Jump)
  /-- `[dest=]#a0c010001[;jump]`: R197 with a = 0; out = D | ~y. -/
  | a0c010001 (u : BitVec 2) (d : Dest) (j : Jump)
  /-- `[dest=]#a0c010010[;jump]`: R198 with a = 0; out = y - D - 1. -/
  | a0c010010 (u : BitVec 2) (d : Dest) (j : Jump)
  /-- `[dest=]D-A[;jump]`: R199 with a = 0; out = D - y. -/
  | a0c010011 (u : BitVec 2) (d : Dest) (j : Jump)
  /-- `[dest=]#a0c010100[;jump]`: R200 with a = 0; out = ~(D | y). -/
  | a0c010100 (u : BitVec 2) (d : Dest) (j : Jump)
  /-- `[dest=]D|A[;jump]`: R201 with a = 0; out = D | y. -/
  | a0c010101 (u : BitVec 2) (d : Dest) (j : Jump)
  /-- `[dest=]#a0c010110[;jump]`: R202 with a = 0; out = -D - y - 2. -/
  | a0c010110 (u : BitVec 2) (d : Dest) (j : Jump)
  /-- `[dest=]#a0c010111[;jump]`: R203 with a = 0; out = D + y + 1. -/
  | a0c010111 (u : BitVec 2) (d : Dest) (j : Jump)
  /-- `[dest=]#a0c011000[;jump]`: R204 with a = 0; out = 0x0000. -/
  | a0c011000 (u : BitVec 2) (d : Dest) (j : Jump)
  /-- `[dest=]#a0c011001[;jump]`: R205 with a = 0; out = 0xFFFF (-1). -/
  | a0c011001 (u : BitVec 2) (d : Dest) (j : Jump)
  /-- `[dest=]#a0c011010[;jump]`: R206 with a = 0; out = ~D. -/
  | a0c011010 (u : BitVec 2) (d : Dest) (j : Jump)
  /-- `[dest=]#a0c011011[;jump]`: R207 with a = 0; out = D. -/
  | a0c011011 (u : BitVec 2) (d : Dest) (j : Jump)
  /-- `[dest=]#a0c011100[;jump]`: R208 with a = 0; out = ~D. -/
  | a0c011100 (u : BitVec 2) (d : Dest) (j : Jump)
  /-- `[dest=]#a0c011101[;jump]`: R209 with a = 0; out = D. -/
  | a0c011101 (u : BitVec 2) (d : Dest) (j : Jump)
  /-- `[dest=]#a0c011110[;jump]`: R210 with a = 0; out = -D - 2. -/
  | a0c011110 (u : BitVec 2) (d : Dest) (j : Jump)
  /-- `[dest=]D+1[;jump]`: R211 with a = 0; out = D + 1. -/
  | a0c011111 (u : BitVec 2) (d : Dest) (j : Jump)
  /-- `[dest=]#a0c100000[;jump]`: R212 with a = 0; out = 0x0000. -/
  | a0c100000 (u : BitVec 2) (d : Dest) (j : Jump)
  /-- `[dest=]#a0c100001[;jump]`: R213 with a = 0; out = 0xFFFF (-1). -/
  | a0c100001 (u : BitVec 2) (d : Dest) (j : Jump)
  /-- `[dest=]#a0c100010[;jump]`: R214 with a = 0; out = y. -/
  | a0c100010 (u : BitVec 2) (d : Dest) (j : Jump)
  /-- `[dest=]#a0c100011[;jump]`: R215 with a = 0; out = ~y. -/
  | a0c100011 (u : BitVec 2) (d : Dest) (j : Jump)
  /-- `[dest=]#a0c100100[;jump]`: R216 with a = 0; out = 0x0000. -/
  | a0c100100 (u : BitVec 2) (d : Dest) (j : Jump)
  /-- `[dest=]#a0c100101[;jump]`: R217 with a = 0; out = 0xFFFF (-1). -/
  | a0c100101 (u : BitVec 2) (d : Dest) (j : Jump)
  /-- `[dest=]#a0c100110[;jump]`: R218 with a = 0; out = ~y. -/
  | a0c100110 (u : BitVec 2) (d : Dest) (j : Jump)
  /-- `[dest=]#a0c100111[;jump]`: R219 with a = 0; out = y. -/
  | a0c100111 (u : BitVec 2) (d : Dest) (j : Jump)
  /-- `[dest=]#a0c101000[;jump]`: R220 with a = 0; out = 0x0000. -/
  | a0c101000 (u : BitVec 2) (d : Dest) (j : Jump)
  /-- `[dest=]#a0c101001[;jump]`: R221 with a = 0; out = 0xFFFF (-1). -/
  | a0c101001 (u : BitVec 2) (d : Dest) (j : Jump)
  /-- `[dest=]0[;jump]`: R222 with a = 0; out = 0x0000. -/
  | a0c101010 (u : BitVec 2) (d : Dest) (j : Jump)
  /-- `[dest=]#a0c101011[;jump]`: R223 with a = 0; out = 0xFFFF (-1). -/
  | a0c101011 (u : BitVec 2) (d : Dest) (j : Jump)
  /-- `[dest=]#a0c101100[;jump]`: R224 with a = 0; out = 0x0000. -/
  | a0c101100 (u : BitVec 2) (d : Dest) (j : Jump)
  /-- `[dest=]#a0c101101[;jump]`: R225 with a = 0; out = 0xFFFF (-1). -/
  | a0c101101 (u : BitVec 2) (d : Dest) (j : Jump)
  /-- `[dest=]#a0c101110[;jump]`: R226 with a = 0; out = 0xFFFF (-1). -/
  | a0c101110 (u : BitVec 2) (d : Dest) (j : Jump)
  /-- `[dest=]#a0c101111[;jump]`: R227 with a = 0; out = 0x0000. -/
  | a0c101111 (u : BitVec 2) (d : Dest) (j : Jump)
  /-- `[dest=]A[;jump]`: R228 with a = 0; out = y. -/
  | a0c110000 (u : BitVec 2) (d : Dest) (j : Jump)
  /-- `[dest=]!A[;jump]`: R229 with a = 0; out = ~y. -/
  | a0c110001 (u : BitVec 2) (d : Dest) (j : Jump)
  /-- `[dest=]A-1[;jump]`: R230 with a = 0; out = y - 1. -/
  | a0c110010 (u : BitVec 2) (d : Dest) (j : Jump)
  /-- `[dest=]-A[;jump]`: R231 with a = 0; out = -y. -/
  | a0c110011 (u : BitVec 2) (d : Dest) (j : Jump)
  /-- `[dest=]#a0c110100[;jump]`: R232 with a = 0; out = ~y. -/
  | a0c110100 (u : BitVec 2) (d : Dest) (j : Jump)
  /-- `[dest=]#a0c110101[;jump]`: R233 with a = 0; out = y. -/
  | a0c110101 (u : BitVec 2) (d : Dest) (j : Jump)
  /-- `[dest=]#a0c110110[;jump]`: R234 with a = 0; out = -y - 2. -/
  | a0c110110 (u : BitVec 2) (d : Dest) (j : Jump)
  /-- `[dest=]A+1[;jump]`: R235 with a = 0; out = y + 1. -/
  | a0c110111 (u : BitVec 2) (d : Dest) (j : Jump)
  /-- `[dest=]#a0c111000[;jump]`: R236 with a = 0; out = 0x0000. -/
  | a0c111000 (u : BitVec 2) (d : Dest) (j : Jump)
  /-- `[dest=]#a0c111001[;jump]`: R237 with a = 0; out = 0xFFFF (-1). -/
  | a0c111001 (u : BitVec 2) (d : Dest) (j : Jump)
  /-- `[dest=]-1[;jump]`: R238 with a = 0; out = 0xFFFF (-1). -/
  | a0c111010 (u : BitVec 2) (d : Dest) (j : Jump)
  /-- `[dest=]#a0c111011[;jump]`: R239 with a = 0; out = 0x0000. -/
  | a0c111011 (u : BitVec 2) (d : Dest) (j : Jump)
  /-- `[dest=]#a0c111100[;jump]`: R240 with a = 0; out = 0xFFFF (-1). -/
  | a0c111100 (u : BitVec 2) (d : Dest) (j : Jump)
  /-- `[dest=]#a0c111101[;jump]`: R241 with a = 0; out = 0x0000. -/
  | a0c111101 (u : BitVec 2) (d : Dest) (j : Jump)
  /-- `[dest=]#a0c111110[;jump]`: R242 with a = 0; out = 0xFFFE (-2). -/
  | a0c111110 (u : BitVec 2) (d : Dest) (j : Jump)
  /-- `[dest=]1[;jump]`: R243 with a = 0; out = 0x0001. -/
  | a0c111111 (u : BitVec 2) (d : Dest) (j : Jump)
  /-- `[dest=]D&M[;jump]`: R180 with a = 1; out = D & y. -/
  | a1c000000 (u : BitVec 2) (d : Dest) (j : Jump)
  /-- `[dest=]#a1c000001[;jump]`: R181 with a = 1; out = ~(D & y). -/
  | a1c000001 (u : BitVec 2) (d : Dest) (j : Jump)
  /-- `[dest=]D+M[;jump]`: R182 with a = 1; out = D + y. -/
  | a1c000010 (u : BitVec 2) (d : Dest) (j : Jump)
  /-- `[dest=]#a1c000011[;jump]`: R183 with a = 1; out = -D - y - 1. -/
  | a1c000011 (u : BitVec 2) (d : Dest) (j : Jump)
  /-- `[dest=]#a1c000100[;jump]`: R184 with a = 1; out = D & ~y. -/
  | a1c000100 (u : BitVec 2) (d : Dest) (j : Jump)
  /-- `[dest=]#a1c000101[;jump]`: R185 with a = 1; out = ~D | y. -/
  | a1c000101 (u : BitVec 2) (d : Dest) (j : Jump)
  /-- `[dest=]#a1c000110[;jump]`: R186 with a = 1; out = D - y - 1. -/
  | a1c000110 (u : BitVec 2) (d : Dest) (j : Jump)
  /-- `[dest=]M-D[;jump]`: R187 with a = 1; out = y - D. -/
  | a1c000111 (u : BitVec 2) (d : Dest) (j : Jump)
  /-- `[dest=]#a1c001000[;jump]`: R188 with a = 1; out = 0x0000. -/
  | a1c001000 (u : BitVec 2) (d : Dest) (j : Jump)
  /-- `[dest=]#a1c001001[;jump]`: R189 with a = 1; out = 0xFFFF (-1). -/
  | a1c001001 (u : BitVec 2) (d : Dest) (j : Jump)
  /-- `[dest=]#a1c001010[;jump]`: R190 with a = 1; out = D. -/
  | a1c001010 (u : BitVec 2) (d : Dest) (j : Jump)
  /-- `[dest=]#a1c001011[;jump]`: R191 with a = 1; out = ~D. -/
  | a1c001011 (u : BitVec 2) (d : Dest) (j : Jump)
  /-- `[dest=]#a1c001100[;jump]`: R192 with a = 1; out = D. -/
  | a1c001100 (u : BitVec 2) (d : Dest) (j : Jump)
  /-- `[dest=]#a1c001101[;jump]`: R193 with a = 1; out = ~D. -/
  | a1c001101 (u : BitVec 2) (d : Dest) (j : Jump)
  /-- `[dest=]#a1c001110[;jump]`: R194 with a = 1; out = D - 1. -/
  | a1c001110 (u : BitVec 2) (d : Dest) (j : Jump)
  /-- `[dest=]#a1c001111[;jump]`: R195 with a = 1; out = -D. -/
  | a1c001111 (u : BitVec 2) (d : Dest) (j : Jump)
  /-- `[dest=]#a1c010000[;jump]`: R196 with a = 1; out = ~D & y. -/
  | a1c010000 (u : BitVec 2) (d : Dest) (j : Jump)
  /-- `[dest=]#a1c010001[;jump]`: R197 with a = 1; out = D | ~y. -/
  | a1c010001 (u : BitVec 2) (d : Dest) (j : Jump)
  /-- `[dest=]#a1c010010[;jump]`: R198 with a = 1; out = y - D - 1. -/
  | a1c010010 (u : BitVec 2) (d : Dest) (j : Jump)
  /-- `[dest=]D-M[;jump]`: R199 with a = 1; out = D - y. -/
  | a1c010011 (u : BitVec 2) (d : Dest) (j : Jump)
  /-- `[dest=]#a1c010100[;jump]`: R200 with a = 1; out = ~(D | y). -/
  | a1c010100 (u : BitVec 2) (d : Dest) (j : Jump)
  /-- `[dest=]D|M[;jump]`: R201 with a = 1; out = D | y. -/
  | a1c010101 (u : BitVec 2) (d : Dest) (j : Jump)
  /-- `[dest=]#a1c010110[;jump]`: R202 with a = 1; out = -D - y - 2. -/
  | a1c010110 (u : BitVec 2) (d : Dest) (j : Jump)
  /-- `[dest=]#a1c010111[;jump]`: R203 with a = 1; out = D + y + 1. -/
  | a1c010111 (u : BitVec 2) (d : Dest) (j : Jump)
  /-- `[dest=]#a1c011000[;jump]`: R204 with a = 1; out = 0x0000. -/
  | a1c011000 (u : BitVec 2) (d : Dest) (j : Jump)
  /-- `[dest=]#a1c011001[;jump]`: R205 with a = 1; out = 0xFFFF (-1). -/
  | a1c011001 (u : BitVec 2) (d : Dest) (j : Jump)
  /-- `[dest=]#a1c011010[;jump]`: R206 with a = 1; out = ~D. -/
  | a1c011010 (u : BitVec 2) (d : Dest) (j : Jump)
  /-- `[dest=]#a1c011011[;jump]`: R207 with a = 1; out = D. -/
  | a1c011011 (u : BitVec 2) (d : Dest) (j : Jump)
  /-- `[dest=]#a1c011100[;jump]`: R208 with a = 1; out = ~D. -/
  | a1c011100 (u : BitVec 2) (d : Dest) (j : Jump)
  /-- `[dest=]#a1c011101[;jump]`: R209 with a = 1; out = D. -/
  | a1c011101 (u : BitVec 2) (d : Dest) (j : Jump)
  /-- `[dest=]#a1c011110[;jump]`: R210 with a = 1; out = -D - 2. -/
  | a1c011110 (u : BitVec 2) (d : Dest) (j : Jump)
  /-- `[dest=]#a1c011111[;jump]`: R211 with a = 1; out = D + 1. -/
  | a1c011111 (u : BitVec 2) (d : Dest) (j : Jump)
  /-- `[dest=]#a1c100000[;jump]`: R212 with a = 1; out = 0x0000. -/
  | a1c100000 (u : BitVec 2) (d : Dest) (j : Jump)
  /-- `[dest=]#a1c100001[;jump]`: R213 with a = 1; out = 0xFFFF (-1). -/
  | a1c100001 (u : BitVec 2) (d : Dest) (j : Jump)
  /-- `[dest=]#a1c100010[;jump]`: R214 with a = 1; out = y. -/
  | a1c100010 (u : BitVec 2) (d : Dest) (j : Jump)
  /-- `[dest=]#a1c100011[;jump]`: R215 with a = 1; out = ~y. -/
  | a1c100011 (u : BitVec 2) (d : Dest) (j : Jump)
  /-- `[dest=]#a1c100100[;jump]`: R216 with a = 1; out = 0x0000. -/
  | a1c100100 (u : BitVec 2) (d : Dest) (j : Jump)
  /-- `[dest=]#a1c100101[;jump]`: R217 with a = 1; out = 0xFFFF (-1). -/
  | a1c100101 (u : BitVec 2) (d : Dest) (j : Jump)
  /-- `[dest=]#a1c100110[;jump]`: R218 with a = 1; out = ~y. -/
  | a1c100110 (u : BitVec 2) (d : Dest) (j : Jump)
  /-- `[dest=]#a1c100111[;jump]`: R219 with a = 1; out = y. -/
  | a1c100111 (u : BitVec 2) (d : Dest) (j : Jump)
  /-- `[dest=]#a1c101000[;jump]`: R220 with a = 1; out = 0x0000. -/
  | a1c101000 (u : BitVec 2) (d : Dest) (j : Jump)
  /-- `[dest=]#a1c101001[;jump]`: R221 with a = 1; out = 0xFFFF (-1). -/
  | a1c101001 (u : BitVec 2) (d : Dest) (j : Jump)
  /-- `[dest=]#a1c101010[;jump]`: R222 with a = 1; out = 0x0000. -/
  | a1c101010 (u : BitVec 2) (d : Dest) (j : Jump)
  /-- `[dest=]#a1c101011[;jump]`: R223 with a = 1; out = 0xFFFF (-1). -/
  | a1c101011 (u : BitVec 2) (d : Dest) (j : Jump)
  /-- `[dest=]#a1c101100[;jump]`: R224 with a = 1; out = 0x0000. -/
  | a1c101100 (u : BitVec 2) (d : Dest) (j : Jump)
  /-- `[dest=]#a1c101101[;jump]`: R225 with a = 1; out = 0xFFFF (-1). -/
  | a1c101101 (u : BitVec 2) (d : Dest) (j : Jump)
  /-- `[dest=]#a1c101110[;jump]`: R226 with a = 1; out = 0xFFFF (-1). -/
  | a1c101110 (u : BitVec 2) (d : Dest) (j : Jump)
  /-- `[dest=]#a1c101111[;jump]`: R227 with a = 1; out = 0x0000. -/
  | a1c101111 (u : BitVec 2) (d : Dest) (j : Jump)
  /-- `[dest=]M[;jump]`: R228 with a = 1; out = y. -/
  | a1c110000 (u : BitVec 2) (d : Dest) (j : Jump)
  /-- `[dest=]!M[;jump]`: R229 with a = 1; out = ~y. -/
  | a1c110001 (u : BitVec 2) (d : Dest) (j : Jump)
  /-- `[dest=]M-1[;jump]`: R230 with a = 1; out = y - 1. -/
  | a1c110010 (u : BitVec 2) (d : Dest) (j : Jump)
  /-- `[dest=]-M[;jump]`: R231 with a = 1; out = -y. -/
  | a1c110011 (u : BitVec 2) (d : Dest) (j : Jump)
  /-- `[dest=]#a1c110100[;jump]`: R232 with a = 1; out = ~y. -/
  | a1c110100 (u : BitVec 2) (d : Dest) (j : Jump)
  /-- `[dest=]#a1c110101[;jump]`: R233 with a = 1; out = y. -/
  | a1c110101 (u : BitVec 2) (d : Dest) (j : Jump)
  /-- `[dest=]#a1c110110[;jump]`: R234 with a = 1; out = -y - 2. -/
  | a1c110110 (u : BitVec 2) (d : Dest) (j : Jump)
  /-- `[dest=]M+1[;jump]`: R235 with a = 1; out = y + 1. -/
  | a1c110111 (u : BitVec 2) (d : Dest) (j : Jump)
  /-- `[dest=]#a1c111000[;jump]`: R236 with a = 1; out = 0x0000. -/
  | a1c111000 (u : BitVec 2) (d : Dest) (j : Jump)
  /-- `[dest=]#a1c111001[;jump]`: R237 with a = 1; out = 0xFFFF (-1). -/
  | a1c111001 (u : BitVec 2) (d : Dest) (j : Jump)
  /-- `[dest=]#a1c111010[;jump]`: R238 with a = 1; out = 0xFFFF (-1). -/
  | a1c111010 (u : BitVec 2) (d : Dest) (j : Jump)
  /-- `[dest=]#a1c111011[;jump]`: R239 with a = 1; out = 0x0000. -/
  | a1c111011 (u : BitVec 2) (d : Dest) (j : Jump)
  /-- `[dest=]#a1c111100[;jump]`: R240 with a = 1; out = 0xFFFF (-1). -/
  | a1c111100 (u : BitVec 2) (d : Dest) (j : Jump)
  /-- `[dest=]#a1c111101[;jump]`: R241 with a = 1; out = 0x0000. -/
  | a1c111101 (u : BitVec 2) (d : Dest) (j : Jump)
  /-- `[dest=]#a1c111110[;jump]`: R242 with a = 1; out = 0xFFFE (-2). -/
  | a1c111110 (u : BitVec 2) (d : Dest) (j : Jump)
  /-- `[dest=]#a1c111111[;jump]`: R243 with a = 1; out = 0x0001. -/
  | a1c111111 (u : BitVec 2) (d : Dest) (j : Jump)
  deriving DecidableEq, Repr

end Sys2Proof
end

