-- ==== Sys2Proof/WellFormed.lean ====
section
/-! DEFINITION. Which instructions an encoding exists for (30_encoding.md R94, R104). -/

namespace Sys2Proof

/-- R104: "`@n` with n > 32767 has no encoding: it would set w[15] and so be a C-instruction." -/
def literalEncodable (literal : Word) : Bool := decide (uint literal ≤ 32767)

/-- Every field of a C-instruction admits every value of its type (R96), so the literal is the only thing to check. -/
def Instr.wellFormed (i : Instr) : Bool :=
  match i with
  | .atV literal => literalEncodable literal
  | .a0c000000 _ _ _ => true
  | .a0c000001 _ _ _ => true
  | .a0c000010 _ _ _ => true
  | .a0c000011 _ _ _ => true
  | .a0c000100 _ _ _ => true
  | .a0c000101 _ _ _ => true
  | .a0c000110 _ _ _ => true
  | .a0c000111 _ _ _ => true
  | .a0c001000 _ _ _ => true
  | .a0c001001 _ _ _ => true
  | .a0c001010 _ _ _ => true
  | .a0c001011 _ _ _ => true
  | .a0c001100 _ _ _ => true
  | .a0c001101 _ _ _ => true
  | .a0c001110 _ _ _ => true
  | .a0c001111 _ _ _ => true
  | .a0c010000 _ _ _ => true
  | .a0c010001 _ _ _ => true
  | .a0c010010 _ _ _ => true
  | .a0c010011 _ _ _ => true
  | .a0c010100 _ _ _ => true
  | .a0c010101 _ _ _ => true
  | .a0c010110 _ _ _ => true
  | .a0c010111 _ _ _ => true
  | .a0c011000 _ _ _ => true
  | .a0c011001 _ _ _ => true
  | .a0c011010 _ _ _ => true
  | .a0c011011 _ _ _ => true
  | .a0c011100 _ _ _ => true
  | .a0c011101 _ _ _ => true
  | .a0c011110 _ _ _ => true
  | .a0c011111 _ _ _ => true
  | .a0c100000 _ _ _ => true
  | .a0c100001 _ _ _ => true
  | .a0c100010 _ _ _ => true
  | .a0c100011 _ _ _ => true
  | .a0c100100 _ _ _ => true
  | .a0c100101 _ _ _ => true
  | .a0c100110 _ _ _ => true
  | .a0c100111 _ _ _ => true
  | .a0c101000 _ _ _ => true
  | .a0c101001 _ _ _ => true
  | .a0c101010 _ _ _ => true
  | .a0c101011 _ _ _ => true
  | .a0c101100 _ _ _ => true
  | .a0c101101 _ _ _ => true
  | .a0c101110 _ _ _ => true
  | .a0c101111 _ _ _ => true
  | .a0c110000 _ _ _ => true
  | .a0c110001 _ _ _ => true
  | .a0c110010 _ _ _ => true
  | .a0c110011 _ _ _ => true
  | .a0c110100 _ _ _ => true
  | .a0c110101 _ _ _ => true
  | .a0c110110 _ _ _ => true
  | .a0c110111 _ _ _ => true
  | .a0c111000 _ _ _ => true
  | .a0c111001 _ _ _ => true
  | .a0c111010 _ _ _ => true
  | .a0c111011 _ _ _ => true
  | .a0c111100 _ _ _ => true
  | .a0c111101 _ _ _ => true
  | .a0c111110 _ _ _ => true
  | .a0c111111 _ _ _ => true
  | .a1c000000 _ _ _ => true
  | .a1c000001 _ _ _ => true
  | .a1c000010 _ _ _ => true
  | .a1c000011 _ _ _ => true
  | .a1c000100 _ _ _ => true
  | .a1c000101 _ _ _ => true
  | .a1c000110 _ _ _ => true
  | .a1c000111 _ _ _ => true
  | .a1c001000 _ _ _ => true
  | .a1c001001 _ _ _ => true
  | .a1c001010 _ _ _ => true
  | .a1c001011 _ _ _ => true
  | .a1c001100 _ _ _ => true
  | .a1c001101 _ _ _ => true
  | .a1c001110 _ _ _ => true
  | .a1c001111 _ _ _ => true
  | .a1c010000 _ _ _ => true
  | .a1c010001 _ _ _ => true
  | .a1c010010 _ _ _ => true
  | .a1c010011 _ _ _ => true
  | .a1c010100 _ _ _ => true
  | .a1c010101 _ _ _ => true
  | .a1c010110 _ _ _ => true
  | .a1c010111 _ _ _ => true
  | .a1c011000 _ _ _ => true
  | .a1c011001 _ _ _ => true
  | .a1c011010 _ _ _ => true
  | .a1c011011 _ _ _ => true
  | .a1c011100 _ _ _ => true
  | .a1c011101 _ _ _ => true
  | .a1c011110 _ _ _ => true
  | .a1c011111 _ _ _ => true
  | .a1c100000 _ _ _ => true
  | .a1c100001 _ _ _ => true
  | .a1c100010 _ _ _ => true
  | .a1c100011 _ _ _ => true
  | .a1c100100 _ _ _ => true
  | .a1c100101 _ _ _ => true
  | .a1c100110 _ _ _ => true
  | .a1c100111 _ _ _ => true
  | .a1c101000 _ _ _ => true
  | .a1c101001 _ _ _ => true
  | .a1c101010 _ _ _ => true
  | .a1c101011 _ _ _ => true
  | .a1c101100 _ _ _ => true
  | .a1c101101 _ _ _ => true
  | .a1c101110 _ _ _ => true
  | .a1c101111 _ _ _ => true
  | .a1c110000 _ _ _ => true
  | .a1c110001 _ _ _ => true
  | .a1c110010 _ _ _ => true
  | .a1c110011 _ _ _ => true
  | .a1c110100 _ _ _ => true
  | .a1c110101 _ _ _ => true
  | .a1c110110 _ _ _ => true
  | .a1c110111 _ _ _ => true
  | .a1c111000 _ _ _ => true
  | .a1c111001 _ _ _ => true
  | .a1c111010 _ _ _ => true
  | .a1c111011 _ _ _ => true
  | .a1c111100 _ _ _ => true
  | .a1c111101 _ _ _ => true
  | .a1c111110 _ _ _ => true
  | .a1c111111 _ _ _ => true

end Sys2Proof
end

