-- ==== Sys2Proof/Decode.lean ====
section
/-! DEFINITION. The decoder (30_encoding.md R90 to R98, R107), and after it the encoder, written from the same formats. -/

namespace Sys2Proof

/-- R107: the outputs of the instruction decoder, a pure function of the 16-bit word alone. -/
structure Fields where
  isC : Bool
  literal : Word
  u : BitVec 2
  a : Bool
  ctrl : Ctrl
  dest : Dest
  jump : Jump
  readsM : Bool
  writesM : Bool
  deriving DecidableEq, Repr

/-- R93: "zx = w[11], nx = w[10], zy = w[9], ny = w[8], f = w[7] and no = w[6]". -/
def ctrlOf (w : Word) : Ctrl :=
  ⟨w.getLsbD 11, w.getLsbD 10, w.getLsbD 9, w.getLsbD 8, w.getLsbD 7, w.getLsbD 6⟩

/-- R93: "dA = w[5], dD = w[4] and dM = w[3]". -/
def destOf (w : Word) : Dest := ⟨w.getLsbD 5, w.getLsbD 4, w.getLsbD 3⟩

/-- R93, 90_conflicts.md C1: jLT = w[2], jEQ = w[1], jGT = w[0]. -/
def jumpOf (w : Word) : Jump := ⟨w.getLsbD 2, w.getLsbD 1, w.getLsbD 0⟩

/-- R94, R107: the literal is zext_16(w[14:0]). -/
def literalOf (w : Word) : Word := (w.extractLsb' 0 15).setWidth 16

/-- R107: the decoder block. -/
def decodeFields (w : Word) : Fields where
  isC := w.getLsbD 15
  literal := literalOf w
  u := w.extractLsb' 13 2
  a := w.getLsbD 12
  ctrl := ctrlOf w
  dest := destOf w
  jump := jumpOf w
  readsM := w.getLsbD 15 && w.getLsbD 12
  writesM := w.getLsbD 15 && w.getLsbD 3

/-- R98: the C-instruction with operand select `a` and comp field `c`, one row of the opcode table for each pair. -/
def mkC (a : Bool) (c : Ctrl) (u : BitVec 2) (d : Dest) (j : Jump) : Instr :=
  match a, c with
  | false, ⟨false, false, false, false, false, false⟩ => .a0c000000 u d j
  | false, ⟨false, false, false, false, false, true⟩ => .a0c000001 u d j
  | false, ⟨false, false, false, false, true, false⟩ => .a0c000010 u d j
  | false, ⟨false, false, false, false, true, true⟩ => .a0c000011 u d j
  | false, ⟨false, false, false, true, false, false⟩ => .a0c000100 u d j
  | false, ⟨false, false, false, true, false, true⟩ => .a0c000101 u d j
  | false, ⟨false, false, false, true, true, false⟩ => .a0c000110 u d j
  | false, ⟨false, false, false, true, true, true⟩ => .a0c000111 u d j
  | false, ⟨false, false, true, false, false, false⟩ => .a0c001000 u d j
  | false, ⟨false, false, true, false, false, true⟩ => .a0c001001 u d j
  | false, ⟨false, false, true, false, true, false⟩ => .a0c001010 u d j
  | false, ⟨false, false, true, false, true, true⟩ => .a0c001011 u d j
  | false, ⟨false, false, true, true, false, false⟩ => .a0c001100 u d j
  | false, ⟨false, false, true, true, false, true⟩ => .a0c001101 u d j
  | false, ⟨false, false, true, true, true, false⟩ => .a0c001110 u d j
  | false, ⟨false, false, true, true, true, true⟩ => .a0c001111 u d j
  | false, ⟨false, true, false, false, false, false⟩ => .a0c010000 u d j
  | false, ⟨false, true, false, false, false, true⟩ => .a0c010001 u d j
  | false, ⟨false, true, false, false, true, false⟩ => .a0c010010 u d j
  | false, ⟨false, true, false, false, true, true⟩ => .a0c010011 u d j
  | false, ⟨false, true, false, true, false, false⟩ => .a0c010100 u d j
  | false, ⟨false, true, false, true, false, true⟩ => .a0c010101 u d j
  | false, ⟨false, true, false, true, true, false⟩ => .a0c010110 u d j
  | false, ⟨false, true, false, true, true, true⟩ => .a0c010111 u d j
  | false, ⟨false, true, true, false, false, false⟩ => .a0c011000 u d j
  | false, ⟨false, true, true, false, false, true⟩ => .a0c011001 u d j
  | false, ⟨false, true, true, false, true, false⟩ => .a0c011010 u d j
  | false, ⟨false, true, true, false, true, true⟩ => .a0c011011 u d j
  | false, ⟨false, true, true, true, false, false⟩ => .a0c011100 u d j
  | false, ⟨false, true, true, true, false, true⟩ => .a0c011101 u d j
  | false, ⟨false, true, true, true, true, false⟩ => .a0c011110 u d j
  | false, ⟨false, true, true, true, true, true⟩ => .a0c011111 u d j
  | false, ⟨true, false, false, false, false, false⟩ => .a0c100000 u d j
  | false, ⟨true, false, false, false, false, true⟩ => .a0c100001 u d j
  | false, ⟨true, false, false, false, true, false⟩ => .a0c100010 u d j
  | false, ⟨true, false, false, false, true, true⟩ => .a0c100011 u d j
  | false, ⟨true, false, false, true, false, false⟩ => .a0c100100 u d j
  | false, ⟨true, false, false, true, false, true⟩ => .a0c100101 u d j
  | false, ⟨true, false, false, true, true, false⟩ => .a0c100110 u d j
  | false, ⟨true, false, false, true, true, true⟩ => .a0c100111 u d j
  | false, ⟨true, false, true, false, false, false⟩ => .a0c101000 u d j
  | false, ⟨true, false, true, false, false, true⟩ => .a0c101001 u d j
  | false, ⟨true, false, true, false, true, false⟩ => .a0c101010 u d j
  | false, ⟨true, false, true, false, true, true⟩ => .a0c101011 u d j
  | false, ⟨true, false, true, true, false, false⟩ => .a0c101100 u d j
  | false, ⟨true, false, true, true, false, true⟩ => .a0c101101 u d j
  | false, ⟨true, false, true, true, true, false⟩ => .a0c101110 u d j
  | false, ⟨true, false, true, true, true, true⟩ => .a0c101111 u d j
  | false, ⟨true, true, false, false, false, false⟩ => .a0c110000 u d j
  | false, ⟨true, true, false, false, false, true⟩ => .a0c110001 u d j
  | false, ⟨true, true, false, false, true, false⟩ => .a0c110010 u d j
  | false, ⟨true, true, false, false, true, true⟩ => .a0c110011 u d j
  | false, ⟨true, true, false, true, false, false⟩ => .a0c110100 u d j
  | false, ⟨true, true, false, true, false, true⟩ => .a0c110101 u d j
  | false, ⟨true, true, false, true, true, false⟩ => .a0c110110 u d j
  | false, ⟨true, true, false, true, true, true⟩ => .a0c110111 u d j
  | false, ⟨true, true, true, false, false, false⟩ => .a0c111000 u d j
  | false, ⟨true, true, true, false, false, true⟩ => .a0c111001 u d j
  | false, ⟨true, true, true, false, true, false⟩ => .a0c111010 u d j
  | false, ⟨true, true, true, false, true, true⟩ => .a0c111011 u d j
  | false, ⟨true, true, true, true, false, false⟩ => .a0c111100 u d j
  | false, ⟨true, true, true, true, false, true⟩ => .a0c111101 u d j
  | false, ⟨true, true, true, true, true, false⟩ => .a0c111110 u d j
  | false, ⟨true, true, true, true, true, true⟩ => .a0c111111 u d j
  | true, ⟨false, false, false, false, false, false⟩ => .a1c000000 u d j
  | true, ⟨false, false, false, false, false, true⟩ => .a1c000001 u d j
  | true, ⟨false, false, false, false, true, false⟩ => .a1c000010 u d j
  | true, ⟨false, false, false, false, true, true⟩ => .a1c000011 u d j
  | true, ⟨false, false, false, true, false, false⟩ => .a1c000100 u d j
  | true, ⟨false, false, false, true, false, true⟩ => .a1c000101 u d j
  | true, ⟨false, false, false, true, true, false⟩ => .a1c000110 u d j
  | true, ⟨false, false, false, true, true, true⟩ => .a1c000111 u d j
  | true, ⟨false, false, true, false, false, false⟩ => .a1c001000 u d j
  | true, ⟨false, false, true, false, false, true⟩ => .a1c001001 u d j
  | true, ⟨false, false, true, false, true, false⟩ => .a1c001010 u d j
  | true, ⟨false, false, true, false, true, true⟩ => .a1c001011 u d j
  | true, ⟨false, false, true, true, false, false⟩ => .a1c001100 u d j
  | true, ⟨false, false, true, true, false, true⟩ => .a1c001101 u d j
  | true, ⟨false, false, true, true, true, false⟩ => .a1c001110 u d j
  | true, ⟨false, false, true, true, true, true⟩ => .a1c001111 u d j
  | true, ⟨false, true, false, false, false, false⟩ => .a1c010000 u d j
  | true, ⟨false, true, false, false, false, true⟩ => .a1c010001 u d j
  | true, ⟨false, true, false, false, true, false⟩ => .a1c010010 u d j
  | true, ⟨false, true, false, false, true, true⟩ => .a1c010011 u d j
  | true, ⟨false, true, false, true, false, false⟩ => .a1c010100 u d j
  | true, ⟨false, true, false, true, false, true⟩ => .a1c010101 u d j
  | true, ⟨false, true, false, true, true, false⟩ => .a1c010110 u d j
  | true, ⟨false, true, false, true, true, true⟩ => .a1c010111 u d j
  | true, ⟨false, true, true, false, false, false⟩ => .a1c011000 u d j
  | true, ⟨false, true, true, false, false, true⟩ => .a1c011001 u d j
  | true, ⟨false, true, true, false, true, false⟩ => .a1c011010 u d j
  | true, ⟨false, true, true, false, true, true⟩ => .a1c011011 u d j
  | true, ⟨false, true, true, true, false, false⟩ => .a1c011100 u d j
  | true, ⟨false, true, true, true, false, true⟩ => .a1c011101 u d j
  | true, ⟨false, true, true, true, true, false⟩ => .a1c011110 u d j
  | true, ⟨false, true, true, true, true, true⟩ => .a1c011111 u d j
  | true, ⟨true, false, false, false, false, false⟩ => .a1c100000 u d j
  | true, ⟨true, false, false, false, false, true⟩ => .a1c100001 u d j
  | true, ⟨true, false, false, false, true, false⟩ => .a1c100010 u d j
  | true, ⟨true, false, false, false, true, true⟩ => .a1c100011 u d j
  | true, ⟨true, false, false, true, false, false⟩ => .a1c100100 u d j
  | true, ⟨true, false, false, true, false, true⟩ => .a1c100101 u d j
  | true, ⟨true, false, false, true, true, false⟩ => .a1c100110 u d j
  | true, ⟨true, false, false, true, true, true⟩ => .a1c100111 u d j
  | true, ⟨true, false, true, false, false, false⟩ => .a1c101000 u d j
  | true, ⟨true, false, true, false, false, true⟩ => .a1c101001 u d j
  | true, ⟨true, false, true, false, true, false⟩ => .a1c101010 u d j
  | true, ⟨true, false, true, false, true, true⟩ => .a1c101011 u d j
  | true, ⟨true, false, true, true, false, false⟩ => .a1c101100 u d j
  | true, ⟨true, false, true, true, false, true⟩ => .a1c101101 u d j
  | true, ⟨true, false, true, true, true, false⟩ => .a1c101110 u d j
  | true, ⟨true, false, true, true, true, true⟩ => .a1c101111 u d j
  | true, ⟨true, true, false, false, false, false⟩ => .a1c110000 u d j
  | true, ⟨true, true, false, false, false, true⟩ => .a1c110001 u d j
  | true, ⟨true, true, false, false, true, false⟩ => .a1c110010 u d j
  | true, ⟨true, true, false, false, true, true⟩ => .a1c110011 u d j
  | true, ⟨true, true, false, true, false, false⟩ => .a1c110100 u d j
  | true, ⟨true, true, false, true, false, true⟩ => .a1c110101 u d j
  | true, ⟨true, true, false, true, true, false⟩ => .a1c110110 u d j
  | true, ⟨true, true, false, true, true, true⟩ => .a1c110111 u d j
  | true, ⟨true, true, true, false, false, false⟩ => .a1c111000 u d j
  | true, ⟨true, true, true, false, false, true⟩ => .a1c111001 u d j
  | true, ⟨true, true, true, false, true, false⟩ => .a1c111010 u d j
  | true, ⟨true, true, true, false, true, true⟩ => .a1c111011 u d j
  | true, ⟨true, true, true, true, false, false⟩ => .a1c111100 u d j
  | true, ⟨true, true, true, true, false, true⟩ => .a1c111101 u d j
  | true, ⟨true, true, true, true, true, false⟩ => .a1c111110 u d j
  | true, ⟨true, true, true, true, true, true⟩ => .a1c111111 u d j

/-- R91, R96: decode is total; w[15] selects the class. -/
def decodeWord (w : Word) : Instr :=
  if (decodeFields w).isC then
    mkC (decodeFields w).a (decodeFields w).ctrl (decodeFields w).u (decodeFields w).dest (decodeFields w).jump
  else .atV (decodeFields w).literal

/-- Why a string of bytes holds no instruction. No WORD is rejected (R96): only a string of bytes can be too short. -/
inductive DecodeError where
  /-- Fewer than two bytes are left, so there is no complete Word (R411, decision D17). Safe: nothing is decoded. -/
  | truncated
  deriving DecidableEq, Repr

/-- R60, R411: the only byte order there is, that of the `.bin` image: least significant byte first. -/
def wordOfBytes (lo hi : Byte) : Word := hi ++ lo

/-- The bytes of a Word in the order of R60. -/
def bytesOfWord (w : Word) : List Byte := [w.extractLsb' 0 8, w.extractLsb' 8 8]

/-- R90: every instruction is exactly one Word; the instruction at the front of a byte string, and the bytes after it. -/
def decode (bytes : List Byte) : Except DecodeError (Instr × List Byte) :=
  match bytes with
  | lo :: hi :: rest => .ok (decodeWord (wordOfBytes lo hi), rest)
  | [_] => .error .truncated
  | [] => .error .truncated

/-- The instruction the decoder reads from an opcode-table word: `nbits` bits of `w`, the bits above them 0, laid out as
one Word's bytes. No instruction is longer than one Word (R90), so more than 16 bits are no instruction. -/
def decodeTableWord (nbits w : Nat) : Option Instr :=
  if nbits ≤ 16 then
    match decode (bytesOfWord (BitVec.ofNat 16 (w % 2 ^ nbits))) with
    | .ok (i, _) => some i
    | .error _ => none
  else none

/-- A single bit at place `n` of a Word. -/
def bitAt (n : Nat) (b : Bool) : Word := (BitVec.ofBool b).setWidth 16 <<< n

/-- R93: a Ctrl at its place, w[11:6]. -/
def ctrlBits (c : Ctrl) : Word :=
  bitAt 11 c.zx ||| bitAt 10 c.nx ||| bitAt 9 c.zy ||| bitAt 8 c.ny ||| bitAt 7 c.f ||| bitAt 6 c.no

/-- R93: a dest field at its place, w[5:3]. -/
def destBits (d : Dest) : Word := bitAt 5 d.toA ||| bitAt 4 d.toD ||| bitAt 3 d.toM

/-- R93: a jump field at its place, w[2:0]. -/
def jumpBits (j : Jump) : Word := bitAt 2 j.lt ||| bitAt 1 j.eq ||| bitAt 0 j.gt

/-- R93: the word `1uuaccccccdddjjj` of a C-instruction. -/
def encodeC (a : Bool) (c : Ctrl) (u : BitVec 2) (d : Dest) (j : Jump) : Word :=
  bitAt 15 true ||| (u.setWidth 16 <<< 13) ||| bitAt 12 a ||| ctrlBits c ||| destBits d ||| jumpBits j

/-- R92, R93: the word of an instruction. Of an `@v` that is not well-formed it is no A-instruction's word (R104). -/
def encode (i : Instr) : Word :=
  match i with
  | .atV literal => literal
  | .a0c000000 u d j => encodeC false ⟨false, false, false, false, false, false⟩ u d j
  | .a0c000001 u d j => encodeC false ⟨false, false, false, false, false, true⟩ u d j
  | .a0c000010 u d j => encodeC false ⟨false, false, false, false, true, false⟩ u d j
  | .a0c000011 u d j => encodeC false ⟨false, false, false, false, true, true⟩ u d j
  | .a0c000100 u d j => encodeC false ⟨false, false, false, true, false, false⟩ u d j
  | .a0c000101 u d j => encodeC false ⟨false, false, false, true, false, true⟩ u d j
  | .a0c000110 u d j => encodeC false ⟨false, false, false, true, true, false⟩ u d j
  | .a0c000111 u d j => encodeC false ⟨false, false, false, true, true, true⟩ u d j
  | .a0c001000 u d j => encodeC false ⟨false, false, true, false, false, false⟩ u d j
  | .a0c001001 u d j => encodeC false ⟨false, false, true, false, false, true⟩ u d j
  | .a0c001010 u d j => encodeC false ⟨false, false, true, false, true, false⟩ u d j
  | .a0c001011 u d j => encodeC false ⟨false, false, true, false, true, true⟩ u d j
  | .a0c001100 u d j => encodeC false ⟨false, false, true, true, false, false⟩ u d j
  | .a0c001101 u d j => encodeC false ⟨false, false, true, true, false, true⟩ u d j
  | .a0c001110 u d j => encodeC false ⟨false, false, true, true, true, false⟩ u d j
  | .a0c001111 u d j => encodeC false ⟨false, false, true, true, true, true⟩ u d j
  | .a0c010000 u d j => encodeC false ⟨false, true, false, false, false, false⟩ u d j
  | .a0c010001 u d j => encodeC false ⟨false, true, false, false, false, true⟩ u d j
  | .a0c010010 u d j => encodeC false ⟨false, true, false, false, true, false⟩ u d j
  | .a0c010011 u d j => encodeC false ⟨false, true, false, false, true, true⟩ u d j
  | .a0c010100 u d j => encodeC false ⟨false, true, false, true, false, false⟩ u d j
  | .a0c010101 u d j => encodeC false ⟨false, true, false, true, false, true⟩ u d j
  | .a0c010110 u d j => encodeC false ⟨false, true, false, true, true, false⟩ u d j
  | .a0c010111 u d j => encodeC false ⟨false, true, false, true, true, true⟩ u d j
  | .a0c011000 u d j => encodeC false ⟨false, true, true, false, false, false⟩ u d j
  | .a0c011001 u d j => encodeC false ⟨false, true, true, false, false, true⟩ u d j
  | .a0c011010 u d j => encodeC false ⟨false, true, true, false, true, false⟩ u d j
  | .a0c011011 u d j => encodeC false ⟨false, true, true, false, true, true⟩ u d j
  | .a0c011100 u d j => encodeC false ⟨false, true, true, true, false, false⟩ u d j
  | .a0c011101 u d j => encodeC false ⟨false, true, true, true, false, true⟩ u d j
  | .a0c011110 u d j => encodeC false ⟨false, true, true, true, true, false⟩ u d j
  | .a0c011111 u d j => encodeC false ⟨false, true, true, true, true, true⟩ u d j
  | .a0c100000 u d j => encodeC false ⟨true, false, false, false, false, false⟩ u d j
  | .a0c100001 u d j => encodeC false ⟨true, false, false, false, false, true⟩ u d j
  | .a0c100010 u d j => encodeC false ⟨true, false, false, false, true, false⟩ u d j
  | .a0c100011 u d j => encodeC false ⟨true, false, false, false, true, true⟩ u d j
  | .a0c100100 u d j => encodeC false ⟨true, false, false, true, false, false⟩ u d j
  | .a0c100101 u d j => encodeC false ⟨true, false, false, true, false, true⟩ u d j
  | .a0c100110 u d j => encodeC false ⟨true, false, false, true, true, false⟩ u d j
  | .a0c100111 u d j => encodeC false ⟨true, false, false, true, true, true⟩ u d j
  | .a0c101000 u d j => encodeC false ⟨true, false, true, false, false, false⟩ u d j
  | .a0c101001 u d j => encodeC false ⟨true, false, true, false, false, true⟩ u d j
  | .a0c101010 u d j => encodeC false ⟨true, false, true, false, true, false⟩ u d j
  | .a0c101011 u d j => encodeC false ⟨true, false, true, false, true, true⟩ u d j
  | .a0c101100 u d j => encodeC false ⟨true, false, true, true, false, false⟩ u d j
  | .a0c101101 u d j => encodeC false ⟨true, false, true, true, false, true⟩ u d j
  | .a0c101110 u d j => encodeC false ⟨true, false, true, true, true, false⟩ u d j
  | .a0c101111 u d j => encodeC false ⟨true, false, true, true, true, true⟩ u d j
  | .a0c110000 u d j => encodeC false ⟨true, true, false, false, false, false⟩ u d j
  | .a0c110001 u d j => encodeC false ⟨true, true, false, false, false, true⟩ u d j
  | .a0c110010 u d j => encodeC false ⟨true, true, false, false, true, false⟩ u d j
  | .a0c110011 u d j => encodeC false ⟨true, true, false, false, true, true⟩ u d j
  | .a0c110100 u d j => encodeC false ⟨true, true, false, true, false, false⟩ u d j
  | .a0c110101 u d j => encodeC false ⟨true, true, false, true, false, true⟩ u d j
  | .a0c110110 u d j => encodeC false ⟨true, true, false, true, true, false⟩ u d j
  | .a0c110111 u d j => encodeC false ⟨true, true, false, true, true, true⟩ u d j
  | .a0c111000 u d j => encodeC false ⟨true, true, true, false, false, false⟩ u d j
  | .a0c111001 u d j => encodeC false ⟨true, true, true, false, false, true⟩ u d j
  | .a0c111010 u d j => encodeC false ⟨true, true, true, false, true, false⟩ u d j
  | .a0c111011 u d j => encodeC false ⟨true, true, true, false, true, true⟩ u d j
  | .a0c111100 u d j => encodeC false ⟨true, true, true, true, false, false⟩ u d j
  | .a0c111101 u d j => encodeC false ⟨true, true, true, true, false, true⟩ u d j
  | .a0c111110 u d j => encodeC false ⟨true, true, true, true, true, false⟩ u d j
  | .a0c111111 u d j => encodeC false ⟨true, true, true, true, true, true⟩ u d j
  | .a1c000000 u d j => encodeC true ⟨false, false, false, false, false, false⟩ u d j
  | .a1c000001 u d j => encodeC true ⟨false, false, false, false, false, true⟩ u d j
  | .a1c000010 u d j => encodeC true ⟨false, false, false, false, true, false⟩ u d j
  | .a1c000011 u d j => encodeC true ⟨false, false, false, false, true, true⟩ u d j
  | .a1c000100 u d j => encodeC true ⟨false, false, false, true, false, false⟩ u d j
  | .a1c000101 u d j => encodeC true ⟨false, false, false, true, false, true⟩ u d j
  | .a1c000110 u d j => encodeC true ⟨false, false, false, true, true, false⟩ u d j
  | .a1c000111 u d j => encodeC true ⟨false, false, false, true, true, true⟩ u d j
  | .a1c001000 u d j => encodeC true ⟨false, false, true, false, false, false⟩ u d j
  | .a1c001001 u d j => encodeC true ⟨false, false, true, false, false, true⟩ u d j
  | .a1c001010 u d j => encodeC true ⟨false, false, true, false, true, false⟩ u d j
  | .a1c001011 u d j => encodeC true ⟨false, false, true, false, true, true⟩ u d j
  | .a1c001100 u d j => encodeC true ⟨false, false, true, true, false, false⟩ u d j
  | .a1c001101 u d j => encodeC true ⟨false, false, true, true, false, true⟩ u d j
  | .a1c001110 u d j => encodeC true ⟨false, false, true, true, true, false⟩ u d j
  | .a1c001111 u d j => encodeC true ⟨false, false, true, true, true, true⟩ u d j
  | .a1c010000 u d j => encodeC true ⟨false, true, false, false, false, false⟩ u d j
  | .a1c010001 u d j => encodeC true ⟨false, true, false, false, false, true⟩ u d j
  | .a1c010010 u d j => encodeC true ⟨false, true, false, false, true, false⟩ u d j
  | .a1c010011 u d j => encodeC true ⟨false, true, false, false, true, true⟩ u d j
  | .a1c010100 u d j => encodeC true ⟨false, true, false, true, false, false⟩ u d j
  | .a1c010101 u d j => encodeC true ⟨false, true, false, true, false, true⟩ u d j
  | .a1c010110 u d j => encodeC true ⟨false, true, false, true, true, false⟩ u d j
  | .a1c010111 u d j => encodeC true ⟨false, true, false, true, true, true⟩ u d j
  | .a1c011000 u d j => encodeC true ⟨false, true, true, false, false, false⟩ u d j
  | .a1c011001 u d j => encodeC true ⟨false, true, true, false, false, true⟩ u d j
  | .a1c011010 u d j => encodeC true ⟨false, true, true, false, true, false⟩ u d j
  | .a1c011011 u d j => encodeC true ⟨false, true, true, false, true, true⟩ u d j
  | .a1c011100 u d j => encodeC true ⟨false, true, true, true, false, false⟩ u d j
  | .a1c011101 u d j => encodeC true ⟨false, true, true, true, false, true⟩ u d j
  | .a1c011110 u d j => encodeC true ⟨false, true, true, true, true, false⟩ u d j
  | .a1c011111 u d j => encodeC true ⟨false, true, true, true, true, true⟩ u d j
  | .a1c100000 u d j => encodeC true ⟨true, false, false, false, false, false⟩ u d j
  | .a1c100001 u d j => encodeC true ⟨true, false, false, false, false, true⟩ u d j
  | .a1c100010 u d j => encodeC true ⟨true, false, false, false, true, false⟩ u d j
  | .a1c100011 u d j => encodeC true ⟨true, false, false, false, true, true⟩ u d j
  | .a1c100100 u d j => encodeC true ⟨true, false, false, true, false, false⟩ u d j
  | .a1c100101 u d j => encodeC true ⟨true, false, false, true, false, true⟩ u d j
  | .a1c100110 u d j => encodeC true ⟨true, false, false, true, true, false⟩ u d j
  | .a1c100111 u d j => encodeC true ⟨true, false, false, true, true, true⟩ u d j
  | .a1c101000 u d j => encodeC true ⟨true, false, true, false, false, false⟩ u d j
  | .a1c101001 u d j => encodeC true ⟨true, false, true, false, false, true⟩ u d j
  | .a1c101010 u d j => encodeC true ⟨true, false, true, false, true, false⟩ u d j
  | .a1c101011 u d j => encodeC true ⟨true, false, true, false, true, true⟩ u d j
  | .a1c101100 u d j => encodeC true ⟨true, false, true, true, false, false⟩ u d j
  | .a1c101101 u d j => encodeC true ⟨true, false, true, true, false, true⟩ u d j
  | .a1c101110 u d j => encodeC true ⟨true, false, true, true, true, false⟩ u d j
  | .a1c101111 u d j => encodeC true ⟨true, false, true, true, true, true⟩ u d j
  | .a1c110000 u d j => encodeC true ⟨true, true, false, false, false, false⟩ u d j
  | .a1c110001 u d j => encodeC true ⟨true, true, false, false, false, true⟩ u d j
  | .a1c110010 u d j => encodeC true ⟨true, true, false, false, true, false⟩ u d j
  | .a1c110011 u d j => encodeC true ⟨true, true, false, false, true, true⟩ u d j
  | .a1c110100 u d j => encodeC true ⟨true, true, false, true, false, false⟩ u d j
  | .a1c110101 u d j => encodeC true ⟨true, true, false, true, false, true⟩ u d j
  | .a1c110110 u d j => encodeC true ⟨true, true, false, true, true, false⟩ u d j
  | .a1c110111 u d j => encodeC true ⟨true, true, false, true, true, true⟩ u d j
  | .a1c111000 u d j => encodeC true ⟨true, true, true, false, false, false⟩ u d j
  | .a1c111001 u d j => encodeC true ⟨true, true, true, false, false, true⟩ u d j
  | .a1c111010 u d j => encodeC true ⟨true, true, true, false, true, false⟩ u d j
  | .a1c111011 u d j => encodeC true ⟨true, true, true, false, true, true⟩ u d j
  | .a1c111100 u d j => encodeC true ⟨true, true, true, true, false, false⟩ u d j
  | .a1c111101 u d j => encodeC true ⟨true, true, true, true, false, true⟩ u d j
  | .a1c111110 u d j => encodeC true ⟨true, true, true, true, true, false⟩ u d j
  | .a1c111111 u d j => encodeC true ⟨true, true, true, true, true, true⟩ u d j

/-- R91: whether an instruction is a C-instruction. -/
def Instr.isC (i : Instr) : Bool :=
  match i with
  | .atV _ => false
  | .a0c000000 _ _ _ => true
  | .a0c000001 _ _ _ => true
  | .a0c000010 _ _ _ => true
  | .a0c000011 _ _ _ => true
  | .a0c000100 _ _ _ => true
  | .a0c000101 _ _ _ => true
  | .a0c000110 _ _ _ => true
  | .a0c000111 _ _ _ => true
  | .a0c001000 _ _ _ => true
  | .a0c001001 _ _ _ => true
  | .a0c001010 _ _ _ => true
  | .a0c001011 _ _ _ => true
  | .a0c001100 _ _ _ => true
  | .a0c001101 _ _ _ => true
  | .a0c001110 _ _ _ => true
  | .a0c001111 _ _ _ => true
  | .a0c010000 _ _ _ => true
  | .a0c010001 _ _ _ => true
  | .a0c010010 _ _ _ => true
  | .a0c010011 _ _ _ => true
  | .a0c010100 _ _ _ => true
  | .a0c010101 _ _ _ => true
  | .a0c010110 _ _ _ => true
  | .a0c010111 _ _ _ => true
  | .a0c011000 _ _ _ => true
  | .a0c011001 _ _ _ => true
  | .a0c011010 _ _ _ => true
  | .a0c011011 _ _ _ => true
  | .a0c011100 _ _ _ => true
  | .a0c011101 _ _ _ => true
  | .a0c011110 _ _ _ => true
  | .a0c011111 _ _ _ => true
  | .a0c100000 _ _ _ => true
  | .a0c100001 _ _ _ => true
  | .a0c100010 _ _ _ => true
  | .a0c100011 _ _ _ => true
  | .a0c100100 _ _ _ => true
  | .a0c100101 _ _ _ => true
  | .a0c100110 _ _ _ => true
  | .a0c100111 _ _ _ => true
  | .a0c101000 _ _ _ => true
  | .a0c101001 _ _ _ => true
  | .a0c101010 _ _ _ => true
  | .a0c101011 _ _ _ => true
  | .a0c101100 _ _ _ => true
  | .a0c101101 _ _ _ => true
  | .a0c101110 _ _ _ => true
  | .a0c101111 _ _ _ => true
  | .a0c110000 _ _ _ => true
  | .a0c110001 _ _ _ => true
  | .a0c110010 _ _ _ => true
  | .a0c110011 _ _ _ => true
  | .a0c110100 _ _ _ => true
  | .a0c110101 _ _ _ => true
  | .a0c110110 _ _ _ => true
  | .a0c110111 _ _ _ => true
  | .a0c111000 _ _ _ => true
  | .a0c111001 _ _ _ => true
  | .a0c111010 _ _ _ => true
  | .a0c111011 _ _ _ => true
  | .a0c111100 _ _ _ => true
  | .a0c111101 _ _ _ => true
  | .a0c111110 _ _ _ => true
  | .a0c111111 _ _ _ => true
  | .a1c000000 _ _ _ => true
  | .a1c000001 _ _ _ => true
  | .a1c000010 _ _ _ => true
  | .a1c000011 _ _ _ => true
  | .a1c000100 _ _ _ => true
  | .a1c000101 _ _ _ => true
  | .a1c000110 _ _ _ => true
  | .a1c000111 _ _ _ => true
  | .a1c001000 _ _ _ => true
  | .a1c001001 _ _ _ => true
  | .a1c001010 _ _ _ => true
  | .a1c001011 _ _ _ => true
  | .a1c001100 _ _ _ => true
  | .a1c001101 _ _ _ => true
  | .a1c001110 _ _ _ => true
  | .a1c001111 _ _ _ => true
  | .a1c010000 _ _ _ => true
  | .a1c010001 _ _ _ => true
  | .a1c010010 _ _ _ => true
  | .a1c010011 _ _ _ => true
  | .a1c010100 _ _ _ => true
  | .a1c010101 _ _ _ => true
  | .a1c010110 _ _ _ => true
  | .a1c010111 _ _ _ => true
  | .a1c011000 _ _ _ => true
  | .a1c011001 _ _ _ => true
  | .a1c011010 _ _ _ => true
  | .a1c011011 _ _ _ => true
  | .a1c011100 _ _ _ => true
  | .a1c011101 _ _ _ => true
  | .a1c011110 _ _ _ => true
  | .a1c011111 _ _ _ => true
  | .a1c100000 _ _ _ => true
  | .a1c100001 _ _ _ => true
  | .a1c100010 _ _ _ => true
  | .a1c100011 _ _ _ => true
  | .a1c100100 _ _ _ => true
  | .a1c100101 _ _ _ => true
  | .a1c100110 _ _ _ => true
  | .a1c100111 _ _ _ => true
  | .a1c101000 _ _ _ => true
  | .a1c101001 _ _ _ => true
  | .a1c101010 _ _ _ => true
  | .a1c101011 _ _ _ => true
  | .a1c101100 _ _ _ => true
  | .a1c101101 _ _ _ => true
  | .a1c101110 _ _ _ => true
  | .a1c101111 _ _ _ => true
  | .a1c110000 _ _ _ => true
  | .a1c110001 _ _ _ => true
  | .a1c110010 _ _ _ => true
  | .a1c110011 _ _ _ => true
  | .a1c110100 _ _ _ => true
  | .a1c110101 _ _ _ => true
  | .a1c110110 _ _ _ => true
  | .a1c110111 _ _ _ => true
  | .a1c111000 _ _ _ => true
  | .a1c111001 _ _ _ => true
  | .a1c111010 _ _ _ => true
  | .a1c111011 _ _ _ => true
  | .a1c111100 _ _ _ => true
  | .a1c111101 _ _ _ => true
  | .a1c111110 _ _ _ => true
  | .a1c111111 _ _ _ => true

/-- R104: the word an instruction assembles to: "`@n` with 0 <= n <= 32767 encodes as the word n", a larger n is refused,
and a C-instruction is `0xE000 | (a << 12) | (comp << 6) | (dest << 3) | jump`, with w[14:13] = 11. -/
def assembledWord (i : Instr) : Option Word :=
  if i.wellFormed then
    if i.isC then some (encode i ||| 0x6000#16) else some (encode i)
  else none

end Sys2Proof
end

