-- ==== Sys2Proof/Machine/Disassembly.lean ====
section
/-! DEFINITION. The disassembler (30_encoding.md R99 to R103, R106; 60_exceptions.md R352): a total function of the Word. -/

namespace Sys2Proof.Machine

/-- R100: the dest mnemonic and its `=`; absent for 000 (R99). -/
def destText (d : Dest) : List Char :=
  match d with
  | ⟨false, false, false⟩ => []
  | ⟨false, false, true⟩ => "M=".toList
  | ⟨false, true, false⟩ => "D=".toList
  | ⟨false, true, true⟩ => "MD=".toList
  | ⟨true, false, false⟩ => "A=".toList
  | ⟨true, false, true⟩ => "AM=".toList
  | ⟨true, true, false⟩ => "AD=".toList
  | ⟨true, true, true⟩ => "AMD=".toList

/-- R101: the jump mnemonic after its `;`; absent for 000 (R99). -/
def jumpText (j : Jump) : List Char :=
  match j with
  | ⟨false, false, false⟩ => []
  | ⟨false, false, true⟩ => ";JGT".toList
  | ⟨false, true, false⟩ => ";JEQ".toList
  | ⟨false, true, true⟩ => ";JGE".toList
  | ⟨true, false, false⟩ => ";JLT".toList
  | ⟨true, false, true⟩ => ";JNE".toList
  | ⟨true, true, false⟩ => ";JLE".toList
  | ⟨true, true, true⟩ => ";JMP".toList

/-- The comp field as the number w[11:6] (R93). -/
def compBits (c : Ctrl) : BitVec 6 :=
  BitVec.ofBool c.zx ++ BitVec.ofBool c.nx ++ BitVec.ofBool c.zy ++ BitVec.ofBool c.ny ++ BitVec.ofBool c.f
    ++ BitVec.ofBool c.no

/-- R102: the canonical comp mnemonics of the rows with a = 0. -/
def canonicalA : List (BitVec 6 × String) :=
  [(0b101010, "0"), (0b111111, "1"), (0b111010, "-1"), (0b001100, "D"), (0b110000, "A"), (0b001101, "!D"),
   (0b110001, "!A"), (0b001111, "-D"), (0b110011, "-A")] ++
  [(0b011111, "D+1"), (0b110111, "A+1"), (0b001110, "D-1"), (0b110010, "A-1"), (0b000010, "D+A"), (0b010011, "D-A"),
   (0b000111, "A-D"), (0b000000, "D&A"), (0b010101, "D|A")]

/-- R102: the canonical comp mnemonics of the rows with a = 1. -/
def canonicalM : List (BitVec 6 × String) :=
  [(0b110000, "M"), (0b110001, "!M"), (0b110011, "-M"), (0b110111, "M+1"), (0b110010, "M-1")] ++
  [(0b000010, "D+M"), (0b010011, "D-M"), (0b000111, "M-D"), (0b000000, "D&M"), (0b010101, "D|M")]

/-- A bit as a character. -/
def bitChar (b : Bool) : Char := if b then '1' else '0'

/-- R103: the raw form `#a<a>c<c5c4c3c2c1c0>`. -/
def rawText (a : Bool) (c : Ctrl) : List Char :=
  ['#', 'a', bitChar a, 'c', bitChar c.zx, bitChar c.nx, bitChar c.zy, bitChar c.ny, bitChar c.f, bitChar c.no]

/-- R102, R103: "A canonical pair always renders with its rule R102 mnemonic, never in the raw form." -/
def compText (a : Bool) (c : Ctrl) : List Char :=
  match (if a then canonicalM else canonicalA).lookup (compBits c) with
  | some name => name.toList
  | none => rawText a c

/-- A decimal digit's character. -/
def digitChar (n : Nat) : Char := Char.ofNat (48 + n)

/-- The decimal digits of a number, the last digit first. -/
def digitsFrom (fuel n : Nat) : List Char :=
  match fuel with
  | 0 => []
  | fuel + 1 => digitChar (n % 10) :: (if n / 10 = 0 then [] else digitsFrom fuel (n / 10))

/-- R99: a literal in decimal; five digits hold every value to 32767. -/
def decimalText (n : Nat) : List Char := (digitsFrom 5 n).reverse

/-- R99: `dest=comp;jump` "with absent `dest`/`jump` omitted". -/
def cText (a : Bool) (c : Ctrl) (d : Dest) (j : Jump) : List Char := destText d ++ compText a c ++ jumpText j

/-- R99, R106: the text of a Word. -/
def disassemble (w : Word) : String :=
  if (decodeFields w).isC then
    String.ofList (cText (decodeFields w).a (decodeFields w).ctrl (decodeFields w).dest (decodeFields w).jump)
  else String.ofList ('@' :: decimalText (uint (decodeFields w).literal))

end Sys2Proof.Machine
end

