-- ==== Sys2Proof/Config.lean ====
section
/-! DEFINITION. What the spec leaves open (00_scope.md R6) and the free values (10_state.md R39; 60_exceptions.md R341).
Each constant has no body: nothing in Lean can evaluate it, so a claim holds for every value of it. -/

namespace Sys2Proof

/-- R6, 92_eei_decisions.md D9: PAUSE_LAG, the most continuous steps that may still commit after `pause()` takes effect. -/
opaque Config.pauseLag : Nat

/-- R6, D12: RESET_CLEARS_SCREEN, whether `reset()` zeroes the screen region. -/
opaque Config.resetClearsScreen : Bool

/-- R6, D10: DEFAULT_RATE less one; the parameter is "at least 1" and otherwise open. -/
opaque Config.defaultRateLessOne : Nat

/-- R6, D10: DEFAULT_RATE, "at least 1". -/
def Config.defaultRate : Nat := Config.defaultRateLessOne + 1

/-- R39, D11: the n-th drawn Word, "any value, a draw the model does not choose" (A and D after `reset()`). -/
opaque Config.freeWord : Nat → Word

/-- R341, R344: the n-th drawn pause lag, before it is brought into [0, PAUSE_LAG]. -/
opaque Config.freeLag : Nat → Nat

/-- R341: "a draw in [0, PAUSE_LAG]". Every value of the range is one some `freeLag` gives. -/
def Config.drawnLag (n : Nat) : Nat := Config.freeLag n % (Config.pauseLag + 1)

end Sys2Proof
end

