-- ==== Sys2Proof/Machine/State.lean ====
section
/-! DEFINITION. The state of one machine instance (10_state.md), as plain data, and its power-on value (R38, R400). -/

namespace Sys2Proof.Machine

/-- A store of Words, sparse: (address, Word) pairs at strictly rising addresses, none of them 0x0000. An address not
listed holds 0x0000, as the spec says of RAM at power-on and of ROM beyond the loaded program (R26, R38).
The unit is the Word, because the machine has no byte addresses (R51, R59; log entry 1). -/
abbrev Memory := List (Nat × Word)

/-- R28: the run-state register. -/
inductive RunState where
  | stopped
  | running
  | paused
  deriving DecidableEq, Repr

/-- R30, R301: the kinds of an AddressFault. -/
inductive FaultKind where
  /-- a = 1 and uint(A) >= 24577. -/
  | ramRead
  /-- dM = 1 and uint(A) >= 24577. -/
  | ramWrite
  /-- The jump condition holds and uint(A) >= 32768. -/
  | jumpTarget
  deriving DecidableEq, Repr

/-- R30: the contents of the fault record. -/
structure AddressFault where
  kind : FaultKind
  /-- PC_pre, the index of the faulting instruction. -/
  pc : RomIndex
  /-- The faulting instruction word, w[14:13] included. -/
  word : Word
  /-- uint(A_pre), in [0, 65535]. -/
  addr : Word
  deriving DecidableEq, Repr

/-- R333, R335: a key of the host. The keys with an entry in the code table are the logical keys. -/
inductive HostKey where
  /-- The key of a 7-bit ASCII code; the printable ones, 32 to 126, are logical keys (D15). -/
  | ascii (code : BitVec 7)
  | enter
  | backspace
  | left
  | up
  | right
  | down
  | home
  | endKey
  | pageUp
  | pageDown
  | insert
  | delete
  | escape
  /-- F1 to F12: `function i` is the key F(i+1). -/
  | function (i : Fin 12)
  /-- A host key with no entry in the table, such as Shift. -/
  | unmapped
  deriving DecidableEq, Repr

/-- R354, R410: what `load(path)` is given: the path and the file's bytes, `none` where the file cannot be read. -/
structure HostFile where
  path : String
  bytes : Option (List Byte)
  deriving DecidableEq, Repr

/-- R64: the events of the single total order, one constructor for each kind of event of each agent (R10, R354). -/
inductive Event where
  /-- The Execution Engine's turn: one continuous step, where it is enabled (R342). -/
  | engine
  | load (file : HostFile)
  | run
  | pause
  | step
  | reset
  | setRate (r : Nat)
  | windowClose
  | keyDown (k : HostKey)
  | keyUp
  /-- `isRunning()` and `isPaused()` (R347): changes nothing. -/
  | query
  /-- A read of the committed state by a test or the renderer (R65, R355): changes nothing. -/
  | readState
  deriving DecidableEq, Repr

/-- The state of one machine instance (10_state.md). The last two fields are the model's own. -/
structure State where
  /-- R23: the program counter. -/
  pc : RomIndex
  /-- R21: the address register. -/
  a : Word
  /-- R22: the data register. -/
  d : Word
  /-- R26: the Instruction Store, 32768 Words. -/
  rom : Memory
  /-- R27: the Memory Bank, 24577 Words. -/
  ram : Memory
  /-- R28: the run-state register. -/
  run : RunState
  /-- R29: the rate register, instructions per second. -/
  rate : Nat
  /-- R30: the fault record. -/
  fault : Option AddressFault
  /-- R33 (a): the continuous steps that may still commit after `pause()` or window close. -/
  grace : Nat
  /-- The events that happen next in the total order of R64, the first one next; when none is left, every further turn is
  the engine's. This is the free interleaving and the key event schedule of R6, as data (log entry 3). -/
  schedule : List Event
  /-- How many free values have been drawn (R39, R341; log entry 5). -/
  draws : Nat
  deriving DecidableEq, Repr

/-- Why a step could end in a fault outcome: NO reason. R304 and 90_conflicts.md C13: an AddressFault does not escape the
step; it is recorded in `State.fault` and the step returns, so every step of this machine has a next state (safe). -/
inductive Fault where
  deriving DecidableEq, Repr

/-- Why a step could be refused. -/
inductive Refusal where
  /-- Raised by an arm of `exec` whose instruction has no meaning yet; no arm does now. Safe: nothing is claimed of it. -/
  | notModelled (mnemonic : String)
  deriving DecidableEq, Repr

/-- What one step answers. -/
abbrev Result := Host.Outcome State Fault Refusal

/-- R38, R400: power-on. "PC = 0, A = D = 0, all RAM is 0, the ROM is all 0, run = Paused, fault = none, and grace = 0";
rate is the open parameter DEFAULT_RATE. No event is scheduled and nothing has been drawn (log entries 3 and 5). -/
def State.reset : State where
  pc := 0
  a := 0
  d := 0
  rom := []
  ram := []
  run := .paused
  rate := Config.defaultRate
  fault := none
  grace := 0
  schedule := []
  draws := 0

end Sys2Proof.Machine
end

