-- ==== Sys2Proof/Machine/Ops.lean ====
section
/-! DEFINITION. The named operations over the two memories and the registers, and taking an AddressFault. -/

namespace Sys2Proof.Machine

/-- R5: RAM_WORDS. -/
abbrev ramWords : Nat := 24577

/-- R5: ROM_WORDS. -/
abbrev romWords : Nat := 32768

/-- R5: SCREEN_BASE. -/
abbrev screenBase : Nat := 16384

/-- R5: the first address after the screen region, SCREEN_BASE + SCREEN_WORDS. -/
abbrev screenEnd : Nat := 24576

/-- R5: KBD_ADDR. -/
abbrev kbdAddr : Nat := 24576

/-- R53, R57: the Word at an address: the last one written, or 0x0000. -/
def Memory.read (m : Memory) (addr : Nat) : Word :=
  match m with
  | [] => 0
  | (k, v) :: rest => if k = addr then v else Memory.read rest addr

/-- Put a cell in front, unless its Word is what an unlisted address holds. -/
def Memory.cons (addr : Nat) (v : Word) (m : Memory) : Memory :=
  if v = 0 then m else (addr, v) :: m

/-- R54: set the Word at an address, keeping the canonical form (writing 0x0000 removes the entry). -/
def Memory.write (m : Memory) (addr : Nat) (v : Word) : Memory :=
  match m with
  | [] => Memory.cons addr v []
  | (k, x) :: rest =>
    if addr < k then Memory.cons addr v ((k, x) :: rest)
    else if addr = k then Memory.cons addr v rest
    else (k, x) :: Memory.write rest addr v

/-- R39, R401: zero every Word at the addresses lo to hi - 1. -/
def Memory.clear (m : Memory) (lo hi : Nat) : Memory :=
  m.filter fun cell => !(decide (lo ≤ cell.1) && decide (cell.1 < hi))

/-- R410: a fresh store holding these Words from address `start` on, and 0x0000 elsewhere. -/
def Memory.ofWords (start : Nat) (ws : List Word) : Memory :=
  match ws with
  | [] => []
  | w :: rest => Memory.cons start w (Memory.ofWords (start + 1) rest)

/-- The canonical form from address `lo` on: addresses strictly rising, below `size`, no Word 0x0000. -/
def Memory.wfFrom (size lo : Nat) (m : Memory) : Bool :=
  match m with
  | [] => true
  | (k, v) :: rest => decide (lo ≤ k) && decide (k < size) && decide (v ≠ 0) && Memory.wfFrom size (k + 1) rest

/-- The canonical form of a store of `size` Words, so that equal stores are equal data. -/
def Memory.wf (size : Nat) (m : Memory) : Bool := Memory.wfFrom size 0 m

/-- R52: an M access is valid iff `uint(A_pre) < 24577`. -/
def ramValid (addr : Word) : Bool := decide (uint addr < ramWords)

/-- R154: a jump target is valid iff `uint(A_pre) < 32768`. -/
def jumpValid (addr : Word) : Bool := decide (uint addr < romWords)

/-- R154: the index of a valid jump target. -/
def jumpIndex (addr : Word) : RomIndex := addr.setWidth 15

/-- R154: `(PC_pre + 1) mod 32768`. -/
def nextIndex (pc : RomIndex) : RomIndex := pc + 1

/-- R57: instruction fetch, `ROM[PC]`; it never faults. -/
def fetch (s : State) : Word := s.rom.read s.pc.toNat

/-- R53: `MemRead(uint(addr), 1)`. -/
def memRead (s : State) (addr : Word) : Word := s.ram.read (uint addr)

/-- R54: `MemWrite(uint(addr), 1, v)`. -/
def memWrite (s : State) (addr v : Word) : State := { s with ram := s.ram.write (uint addr) v }

/-- R9: `A <- v`. -/
def setA (s : State) (v : Word) : State := { s with a := v }

/-- R9: `D <- v`. -/
def setD (s : State) (v : Word) : State := { s with d := v }

/-- R9: `pc <- target`. -/
def setPc (s : State) (target : RomIndex) : State := { s with pc := target }

/-- R415: replace the Instruction Store as a whole. -/
def setRom (s : State) (store : Memory) : State := { s with rom := store }

/-- R39: replace the Memory Bank's contents (only `reset()`'s clearing of the screen does). -/
def setRam (s : State) (store : Memory) : State := { s with ram := store }

/-- R341: write the run-state register. -/
def setRun (s : State) (r : RunState) : State := { s with run := r }

/-- R343: write the rate register. -/
def setRateReg (s : State) (r : Nat) : State := { s with rate := r }

/-- R30: write the fault record. -/
def setFault (s : State) (f : AddressFault) : State := { s with fault := some f }

/-- R341, R342: write the hidden grace counter. -/
def setGrace (s : State) (g : Nat) : State := { s with grace := g }

/-- R64: the events still to happen. -/
def setSchedule (s : State) (es : List Event) : State := { s with schedule := es }

/-- Count `n` more draws. -/
def addDraws (s : State) (n : Nat) : State := { s with draws := s.draws + n }

/-- R301, R303: taking an AddressFault, the core's only exception. The step records
`AddressFault(kind, pc = PC_pre, word = w, addr = uint(A_pre))`, and the fault record is the only state that changes: there
is no vector, handler, saved register or mode (R304). There is no return from it either (R305): nothing clears the
record. -/
def raiseAddressFault (kind : FaultKind) (word : Word) (s : State) : Result :=
  .next (setFault s ⟨kind, s.pc, word, s.a⟩)

/-- R153: store `out` to the destinations a dest field selects, all at once: M at the pre-instruction A, A and D. -/
def storeDest (d : Dest) (out : Word) (s : State) : State :=
  { s with
    a := if d.toA then out else s.a
    d := if d.toD then out else s.d
    ram := if d.toM then s.ram.write (uint s.a) out else s.ram }

/-- R154: the index of the next instruction, when no fault is raised. -/
def targetIndex (take : Bool) (s : State) : RomIndex :=
  if take then jumpIndex s.a else nextIndex s.pc

/-- R153: the commit of a C-instruction: the destinations and the PC update together. -/
def commit (d : Dest) (out : Word) (take : Bool) (s : State) : State :=
  setPc (storeDest d out s) (targetIndex take s)

end Sys2Proof.Machine
end

