-- ==== Sys2Proof/Machine/Control.lean ====
section
/-! DEFINITION. The host's commands on the run-state, the rate and the reset (60_exceptions.md R340 to R348;
70_reset_and_hazards.md R401; 10_state.md R39), and the queries (R347). -/

namespace Sys2Proof.Machine

/-- R341, R344: draw grace in [0, PAUSE_LAG]. -/
def drawGrace (s : State) : State := addDraws (setGrace s (Config.drawnLag s.draws)) 1

/-- R341: `run()`: Paused to Running, grace := 0; no effect elsewhere. -/
def runCommand (s : State) : State :=
  match s.run with
  | .paused => setGrace (setRun s .running) 0
  | .running => s
  | .stopped => s

/-- R341: `pause()`: Running to Paused, grace drawn; no effect elsewhere. -/
def pauseCommand (s : State) : State :=
  match s.run with
  | .running => drawGrace (setRun s .paused)
  | .paused => s
  | .stopped => s

/-- R341: window close or shutdown: Stopped; in Running grace is drawn, in Paused it is unchanged (90_conflicts.md C15). -/
def closeWindow (s : State) : State :=
  match s.run with
  | .running => drawGrace (setRun s .stopped)
  | .paused => setRun s .stopped
  | .stopped => s

/-- R343: `setRate(r)` with r >= 1 sets rate, `setRate(0)` has no effect (D10); none has in Stopped (R341). -/
def setRateCommand (r : Nat) (s : State) : State :=
  match s.run with
  | .stopped => s
  | .running => if r = 0 then s else setRateReg s r
  | .paused => if r = 0 then s else setRateReg s r

/-- R39, D12: the screen region after `reset()`. -/
def clearScreenIf (clears : Bool) (s : State) : State :=
  if clears then setRam s (s.ram.clear screenBase screenEnd) else s

/-- R39, R401: PC := 0, A and D drawn (D11), the screen cleared if RESET_CLEARS_SCREEN, everything else unchanged. -/
def resetMachine (s : State) : State :=
  addDraws
    (setD (setA (setPc (clearScreenIf Config.resetClearsScreen s) 0) (Config.freeWord s.draws))
      (Config.freeWord (s.draws + 1)))
    2

/-- R401: `reset()` acts in Running and Paused; in Stopped it has no effect. -/
def resetCommand (s : State) : State :=
  match s.run with
  | .running => resetMachine s
  | .paused => resetMachine s
  | .stopped => s

/-- R347: `isRunning()`. -/
def isRunning (s : State) : Bool := decide (s.run = .running)

/-- R347: `isPaused()`. -/
def isPaused (s : State) : Bool := decide (s.run = .paused)

end Sys2Proof.Machine
end

