-- ==== Sys2Proof/Machine/AInstr.lean ====
section
/-! DEFINITION. The A-instruction (40_a_instruction.md R130). -/

namespace Sys2Proof.Machine

/-- R130, `@v`: "A <- zext_16(w[14:0]); pc <- (PC_pre + 1) mod 32768"; no data access, no exception. -/
def execAtV (literal : Word) (s : State) : Result := .next (setPc (setA s literal) (nextIndex s.pc))

end Sys2Proof.Machine
end

