-- ==== Sys2Proof/Machine/Alu.lean ====
section
/-! DEFINITION. The ALU, stage by stage (41_c_instruction.md R143 to R149). -/

namespace Sys2Proof.Machine

/-- R143 and R145: "if zx set, x := 0" (zy, y). -/
def zeroStage (z : Bool) (v : Word) : Word := if z then 0x0000 else v

/-- R144 and R146, R148: "if nx set, x := ~x" (ny, y; no, out). -/
def notStage (n : Bool) (v : Word) : Word := if n then ~~~v else v

/-- R147: f = 1 adds modulo 2^16, f = 0 is the bitwise AND. -/
def functionStage (f : Bool) (x y : Word) : Word := if f then x + y else x &&& y

/-- R149: the composition of the six stages, in order. -/
def alu (c : Ctrl) (x y : Word) : Word :=
  notStage c.no
    (functionStage c.f (notStage c.nx (zeroStage c.zx x)) (notStage c.ny (zeroStage c.zy y)))

end Sys2Proof.Machine
end

