-- ==== Sys2Proof/Machine/Flags.lean ====
section
/-! DEFINITION. The jump condition (41_c_instruction.md R150). The machine has no flag register and no condition survives an
instruction (10_state.md R24, R25), so there is no flag to compute but the one test of `out`. -/

namespace Sys2Proof.Machine

/-- R150: take = (jLT and sint(out) < 0) or (jEQ and out = 0) or (jGT and sint(out) > 0). -/
def jumpTaken (j : Jump) (out : Word) : Bool :=
  (j.lt && decide (sint out < 0)) || (j.eq && decide (out = 0)) || (j.gt && decide (0 < sint out))

end Sys2Proof.Machine
end

