-- ==== Sys2Proof/Machine/Operands.lean ====
section
/-! DEFINITION. The operands of a C-instruction (30_encoding.md R95; 41_c_instruction.md R141, R142). -/

namespace Sys2Proof.Machine

/-- R142: the ALU's x input is always D_pre. -/
def operandX (s : State) : Word := s.d

/-- R141: the y input: A_pre when a = 0, else `MemRead(uint(A_pre), 1)`, whatever comp is. `none`: the M read's address is
out of range (R52). -/
def operandY (a : Bool) (s : State) : Option Word :=
  if a then
    if ramValid s.a then some (memRead s s.a) else none
  else some s.a

end Sys2Proof.Machine
end

