-- ==== Sys2Proof/Machine/CStep.lean ====
section
/-! DEFINITION. The step of a C-instruction, once for all 128 rows (41_c_instruction.md R140). -/

namespace Sys2Proof.Machine

/-- R140, R302: the checks after the ALU, RamWrite before JumpTarget, and then the commit. -/
def finishC (word : Word) (d : Dest) (out : Word) (take : Bool) (s : State) : Result :=
  if d.toM && !ramValid s.a then raiseAddressFault .ramWrite word s
  else if take && !jumpValid s.a then raiseAddressFault .jumpTarget word s
  else .next (commit d out take s)

/-- R140: read the operands (RamRead is checked first), compute, check, commit. The recorded word is the instruction's own
(log entry 9). -/
def cStep (a : Bool) (c : Ctrl) (u : BitVec 2) (d : Dest) (j : Jump) (s : State) : Result :=
  match operandY a s with
  | none => raiseAddressFault .ramRead (encodeC a c u d j) s
  | some y => finishC (encodeC a c u d j) d (alu c (operandX s) y) (jumpTaken j (alu c (operandX s) y)) s

end Sys2Proof.Machine
end

