-- ==== Sys2Proof/Machine/CompA.lean ====
section
/-! DEFINITION. The 64 C-instructions with a = 0, y = A (42_comp_functions.md R180 to R243), one meaning for each comp value, over
the one step of CStep.lean. The closed form each docstring names is what the ALU stages compute. -/

namespace Sys2Proof.Machine

/-- R180, `[dest=]D&A[;jump]`: out = D & y. -/
def execA0c000000 (u : BitVec 2) (d : Dest) (j : Jump) (s : State) : Result :=
  cStep false ⟨false, false, false, false, false, false⟩ u d j s

/-- R181, `[dest=]#a0c000001[;jump]`: out = ~(D & y). -/
def execA0c000001 (u : BitVec 2) (d : Dest) (j : Jump) (s : State) : Result :=
  cStep false ⟨false, false, false, false, false, true⟩ u d j s

/-- R182, `[dest=]D+A[;jump]`: out = D + y. -/
def execA0c000010 (u : BitVec 2) (d : Dest) (j : Jump) (s : State) : Result :=
  cStep false ⟨false, false, false, false, true, false⟩ u d j s

/-- R183, `[dest=]#a0c000011[;jump]`: out = -D - y - 1. -/
def execA0c000011 (u : BitVec 2) (d : Dest) (j : Jump) (s : State) : Result :=
  cStep false ⟨false, false, false, false, true, true⟩ u d j s

/-- R184, `[dest=]#a0c000100[;jump]`: out = D & ~y. -/
def execA0c000100 (u : BitVec 2) (d : Dest) (j : Jump) (s : State) : Result :=
  cStep false ⟨false, false, false, true, false, false⟩ u d j s

/-- R185, `[dest=]#a0c000101[;jump]`: out = ~D | y. -/
def execA0c000101 (u : BitVec 2) (d : Dest) (j : Jump) (s : State) : Result :=
  cStep false ⟨false, false, false, true, false, true⟩ u d j s

/-- R186, `[dest=]#a0c000110[;jump]`: out = D - y - 1. -/
def execA0c000110 (u : BitVec 2) (d : Dest) (j : Jump) (s : State) : Result :=
  cStep false ⟨false, false, false, true, true, false⟩ u d j s

/-- R187, `[dest=]A-D[;jump]`: out = y - D. -/
def execA0c000111 (u : BitVec 2) (d : Dest) (j : Jump) (s : State) : Result :=
  cStep false ⟨false, false, false, true, true, true⟩ u d j s

/-- R188, `[dest=]#a0c001000[;jump]`: out = 0x0000. -/
def execA0c001000 (u : BitVec 2) (d : Dest) (j : Jump) (s : State) : Result :=
  cStep false ⟨false, false, true, false, false, false⟩ u d j s

/-- R189, `[dest=]#a0c001001[;jump]`: out = 0xFFFF (-1). -/
def execA0c001001 (u : BitVec 2) (d : Dest) (j : Jump) (s : State) : Result :=
  cStep false ⟨false, false, true, false, false, true⟩ u d j s

/-- R190, `[dest=]#a0c001010[;jump]`: out = D. -/
def execA0c001010 (u : BitVec 2) (d : Dest) (j : Jump) (s : State) : Result :=
  cStep false ⟨false, false, true, false, true, false⟩ u d j s

/-- R191, `[dest=]#a0c001011[;jump]`: out = ~D. -/
def execA0c001011 (u : BitVec 2) (d : Dest) (j : Jump) (s : State) : Result :=
  cStep false ⟨false, false, true, false, true, true⟩ u d j s

/-- R192, `[dest=]D[;jump]`: out = D. -/
def execA0c001100 (u : BitVec 2) (d : Dest) (j : Jump) (s : State) : Result :=
  cStep false ⟨false, false, true, true, false, false⟩ u d j s

/-- R193, `[dest=]!D[;jump]`: out = ~D. -/
def execA0c001101 (u : BitVec 2) (d : Dest) (j : Jump) (s : State) : Result :=
  cStep false ⟨false, false, true, true, false, true⟩ u d j s

/-- R194, `[dest=]D-1[;jump]`: out = D - 1. -/
def execA0c001110 (u : BitVec 2) (d : Dest) (j : Jump) (s : State) : Result :=
  cStep false ⟨false, false, true, true, true, false⟩ u d j s

/-- R195, `[dest=]-D[;jump]`: out = -D. -/
def execA0c001111 (u : BitVec 2) (d : Dest) (j : Jump) (s : State) : Result :=
  cStep false ⟨false, false, true, true, true, true⟩ u d j s

/-- R196, `[dest=]#a0c010000[;jump]`: out = ~D & y. -/
def execA0c010000 (u : BitVec 2) (d : Dest) (j : Jump) (s : State) : Result :=
  cStep false ⟨false, true, false, false, false, false⟩ u d j s

/-- R197, `[dest=]#a0c010001[;jump]`: out = D | ~y. -/
def execA0c010001 (u : BitVec 2) (d : Dest) (j : Jump) (s : State) : Result :=
  cStep false ⟨false, true, false, false, false, true⟩ u d j s

/-- R198, `[dest=]#a0c010010[;jump]`: out = y - D - 1. -/
def execA0c010010 (u : BitVec 2) (d : Dest) (j : Jump) (s : State) : Result :=
  cStep false ⟨false, true, false, false, true, false⟩ u d j s

/-- R199, `[dest=]D-A[;jump]`: out = D - y. -/
def execA0c010011 (u : BitVec 2) (d : Dest) (j : Jump) (s : State) : Result :=
  cStep false ⟨false, true, false, false, true, true⟩ u d j s

/-- R200, `[dest=]#a0c010100[;jump]`: out = ~(D | y). -/
def execA0c010100 (u : BitVec 2) (d : Dest) (j : Jump) (s : State) : Result :=
  cStep false ⟨false, true, false, true, false, false⟩ u d j s

/-- R201, `[dest=]D|A[;jump]`: out = D | y. -/
def execA0c010101 (u : BitVec 2) (d : Dest) (j : Jump) (s : State) : Result :=
  cStep false ⟨false, true, false, true, false, true⟩ u d j s

/-- R202, `[dest=]#a0c010110[;jump]`: out = -D - y - 2. -/
def execA0c010110 (u : BitVec 2) (d : Dest) (j : Jump) (s : State) : Result :=
  cStep false ⟨false, true, false, true, true, false⟩ u d j s

/-- R203, `[dest=]#a0c010111[;jump]`: out = D + y + 1. -/
def execA0c010111 (u : BitVec 2) (d : Dest) (j : Jump) (s : State) : Result :=
  cStep false ⟨false, true, false, true, true, true⟩ u d j s

/-- R204, `[dest=]#a0c011000[;jump]`: out = 0x0000. -/
def execA0c011000 (u : BitVec 2) (d : Dest) (j : Jump) (s : State) : Result :=
  cStep false ⟨false, true, true, false, false, false⟩ u d j s

/-- R205, `[dest=]#a0c011001[;jump]`: out = 0xFFFF (-1). -/
def execA0c011001 (u : BitVec 2) (d : Dest) (j : Jump) (s : State) : Result :=
  cStep false ⟨false, true, true, false, false, true⟩ u d j s

/-- R206, `[dest=]#a0c011010[;jump]`: out = ~D. -/
def execA0c011010 (u : BitVec 2) (d : Dest) (j : Jump) (s : State) : Result :=
  cStep false ⟨false, true, true, false, true, false⟩ u d j s

/-- R207, `[dest=]#a0c011011[;jump]`: out = D. -/
def execA0c011011 (u : BitVec 2) (d : Dest) (j : Jump) (s : State) : Result :=
  cStep false ⟨false, true, true, false, true, true⟩ u d j s

/-- R208, `[dest=]#a0c011100[;jump]`: out = ~D. -/
def execA0c011100 (u : BitVec 2) (d : Dest) (j : Jump) (s : State) : Result :=
  cStep false ⟨false, true, true, true, false, false⟩ u d j s

/-- R209, `[dest=]#a0c011101[;jump]`: out = D. -/
def execA0c011101 (u : BitVec 2) (d : Dest) (j : Jump) (s : State) : Result :=
  cStep false ⟨false, true, true, true, false, true⟩ u d j s

/-- R210, `[dest=]#a0c011110[;jump]`: out = -D - 2. -/
def execA0c011110 (u : BitVec 2) (d : Dest) (j : Jump) (s : State) : Result :=
  cStep false ⟨false, true, true, true, true, false⟩ u d j s

/-- R211, `[dest=]D+1[;jump]`: out = D + 1. -/
def execA0c011111 (u : BitVec 2) (d : Dest) (j : Jump) (s : State) : Result :=
  cStep false ⟨false, true, true, true, true, true⟩ u d j s

/-- R212, `[dest=]#a0c100000[;jump]`: out = 0x0000. -/
def execA0c100000 (u : BitVec 2) (d : Dest) (j : Jump) (s : State) : Result :=
  cStep false ⟨true, false, false, false, false, false⟩ u d j s

/-- R213, `[dest=]#a0c100001[;jump]`: out = 0xFFFF (-1). -/
def execA0c100001 (u : BitVec 2) (d : Dest) (j : Jump) (s : State) : Result :=
  cStep false ⟨true, false, false, false, false, true⟩ u d j s

/-- R214, `[dest=]#a0c100010[;jump]`: out = y. -/
def execA0c100010 (u : BitVec 2) (d : Dest) (j : Jump) (s : State) : Result :=
  cStep false ⟨true, false, false, false, true, false⟩ u d j s

/-- R215, `[dest=]#a0c100011[;jump]`: out = ~y. -/
def execA0c100011 (u : BitVec 2) (d : Dest) (j : Jump) (s : State) : Result :=
  cStep false ⟨true, false, false, false, true, true⟩ u d j s

/-- R216, `[dest=]#a0c100100[;jump]`: out = 0x0000. -/
def execA0c100100 (u : BitVec 2) (d : Dest) (j : Jump) (s : State) : Result :=
  cStep false ⟨true, false, false, true, false, false⟩ u d j s

/-- R217, `[dest=]#a0c100101[;jump]`: out = 0xFFFF (-1). -/
def execA0c100101 (u : BitVec 2) (d : Dest) (j : Jump) (s : State) : Result :=
  cStep false ⟨true, false, false, true, false, true⟩ u d j s

/-- R218, `[dest=]#a0c100110[;jump]`: out = ~y. -/
def execA0c100110 (u : BitVec 2) (d : Dest) (j : Jump) (s : State) : Result :=
  cStep false ⟨true, false, false, true, true, false⟩ u d j s

/-- R219, `[dest=]#a0c100111[;jump]`: out = y. -/
def execA0c100111 (u : BitVec 2) (d : Dest) (j : Jump) (s : State) : Result :=
  cStep false ⟨true, false, false, true, true, true⟩ u d j s

/-- R220, `[dest=]#a0c101000[;jump]`: out = 0x0000. -/
def execA0c101000 (u : BitVec 2) (d : Dest) (j : Jump) (s : State) : Result :=
  cStep false ⟨true, false, true, false, false, false⟩ u d j s

/-- R221, `[dest=]#a0c101001[;jump]`: out = 0xFFFF (-1). -/
def execA0c101001 (u : BitVec 2) (d : Dest) (j : Jump) (s : State) : Result :=
  cStep false ⟨true, false, true, false, false, true⟩ u d j s

/-- R222, `[dest=]0[;jump]`: out = 0x0000. -/
def execA0c101010 (u : BitVec 2) (d : Dest) (j : Jump) (s : State) : Result :=
  cStep false ⟨true, false, true, false, true, false⟩ u d j s

/-- R223, `[dest=]#a0c101011[;jump]`: out = 0xFFFF (-1). -/
def execA0c101011 (u : BitVec 2) (d : Dest) (j : Jump) (s : State) : Result :=
  cStep false ⟨true, false, true, false, true, true⟩ u d j s

/-- R224, `[dest=]#a0c101100[;jump]`: out = 0x0000. -/
def execA0c101100 (u : BitVec 2) (d : Dest) (j : Jump) (s : State) : Result :=
  cStep false ⟨true, false, true, true, false, false⟩ u d j s

/-- R225, `[dest=]#a0c101101[;jump]`: out = 0xFFFF (-1). -/
def execA0c101101 (u : BitVec 2) (d : Dest) (j : Jump) (s : State) : Result :=
  cStep false ⟨true, false, true, true, false, true⟩ u d j s

/-- R226, `[dest=]#a0c101110[;jump]`: out = 0xFFFF (-1). -/
def execA0c101110 (u : BitVec 2) (d : Dest) (j : Jump) (s : State) : Result :=
  cStep false ⟨true, false, true, true, true, false⟩ u d j s

/-- R227, `[dest=]#a0c101111[;jump]`: out = 0x0000. -/
def execA0c101111 (u : BitVec 2) (d : Dest) (j : Jump) (s : State) : Result :=
  cStep false ⟨true, false, true, true, true, true⟩ u d j s

/-- R228, `[dest=]A[;jump]`: out = y. -/
def execA0c110000 (u : BitVec 2) (d : Dest) (j : Jump) (s : State) : Result :=
  cStep false ⟨true, true, false, false, false, false⟩ u d j s

/-- R229, `[dest=]!A[;jump]`: out = ~y. -/
def execA0c110001 (u : BitVec 2) (d : Dest) (j : Jump) (s : State) : Result :=
  cStep false ⟨true, true, false, false, false, true⟩ u d j s

/-- R230, `[dest=]A-1[;jump]`: out = y - 1. -/
def execA0c110010 (u : BitVec 2) (d : Dest) (j : Jump) (s : State) : Result :=
  cStep false ⟨true, true, false, false, true, false⟩ u d j s

/-- R231, `[dest=]-A[;jump]`: out = -y. -/
def execA0c110011 (u : BitVec 2) (d : Dest) (j : Jump) (s : State) : Result :=
  cStep false ⟨true, true, false, false, true, true⟩ u d j s

/-- R232, `[dest=]#a0c110100[;jump]`: out = ~y. -/
def execA0c110100 (u : BitVec 2) (d : Dest) (j : Jump) (s : State) : Result :=
  cStep false ⟨true, true, false, true, false, false⟩ u d j s

/-- R233, `[dest=]#a0c110101[;jump]`: out = y. -/
def execA0c110101 (u : BitVec 2) (d : Dest) (j : Jump) (s : State) : Result :=
  cStep false ⟨true, true, false, true, false, true⟩ u d j s

/-- R234, `[dest=]#a0c110110[;jump]`: out = -y - 2. -/
def execA0c110110 (u : BitVec 2) (d : Dest) (j : Jump) (s : State) : Result :=
  cStep false ⟨true, true, false, true, true, false⟩ u d j s

/-- R235, `[dest=]A+1[;jump]`: out = y + 1. -/
def execA0c110111 (u : BitVec 2) (d : Dest) (j : Jump) (s : State) : Result :=
  cStep false ⟨true, true, false, true, true, true⟩ u d j s

/-- R236, `[dest=]#a0c111000[;jump]`: out = 0x0000. -/
def execA0c111000 (u : BitVec 2) (d : Dest) (j : Jump) (s : State) : Result :=
  cStep false ⟨true, true, true, false, false, false⟩ u d j s

/-- R237, `[dest=]#a0c111001[;jump]`: out = 0xFFFF (-1). -/
def execA0c111001 (u : BitVec 2) (d : Dest) (j : Jump) (s : State) : Result :=
  cStep false ⟨true, true, true, false, false, true⟩ u d j s

/-- R238, `[dest=]-1[;jump]`: out = 0xFFFF (-1). -/
def execA0c111010 (u : BitVec 2) (d : Dest) (j : Jump) (s : State) : Result :=
  cStep false ⟨true, true, true, false, true, false⟩ u d j s

/-- R239, `[dest=]#a0c111011[;jump]`: out = 0x0000. -/
def execA0c111011 (u : BitVec 2) (d : Dest) (j : Jump) (s : State) : Result :=
  cStep false ⟨true, true, true, false, true, true⟩ u d j s

/-- R240, `[dest=]#a0c111100[;jump]`: out = 0xFFFF (-1). -/
def execA0c111100 (u : BitVec 2) (d : Dest) (j : Jump) (s : State) : Result :=
  cStep false ⟨true, true, true, true, false, false⟩ u d j s

/-- R241, `[dest=]#a0c111101[;jump]`: out = 0x0000. -/
def execA0c111101 (u : BitVec 2) (d : Dest) (j : Jump) (s : State) : Result :=
  cStep false ⟨true, true, true, true, false, true⟩ u d j s

/-- R242, `[dest=]#a0c111110[;jump]`: out = 0xFFFE (-2). -/
def execA0c111110 (u : BitVec 2) (d : Dest) (j : Jump) (s : State) : Result :=
  cStep false ⟨true, true, true, true, true, false⟩ u d j s

/-- R243, `[dest=]1[;jump]`: out = 0x0001. -/
def execA0c111111 (u : BitVec 2) (d : Dest) (j : Jump) (s : State) : Result :=
  cStep false ⟨true, true, true, true, true, true⟩ u d j s

end Sys2Proof.Machine
end

