-- ==== Sys2Proof/Machine/CompM.lean ====
section
/-! DEFINITION. The 64 C-instructions with a = 1, y = M (42_comp_functions.md R180 to R243), one meaning for each comp value, over
the one step of CStep.lean. The closed form each docstring names is what the ALU stages compute. -/

namespace Sys2Proof.Machine

/-- R180, `[dest=]D&M[;jump]`: out = D & y. -/
def execA1c000000 (u : BitVec 2) (d : Dest) (j : Jump) (s : State) : Result :=
  cStep true ⟨false, false, false, false, false, false⟩ u d j s

/-- R181, `[dest=]#a1c000001[;jump]`: out = ~(D & y). -/
def execA1c000001 (u : BitVec 2) (d : Dest) (j : Jump) (s : State) : Result :=
  cStep true ⟨false, false, false, false, false, true⟩ u d j s

/-- R182, `[dest=]D+M[;jump]`: out = D + y. -/
def execA1c000010 (u : BitVec 2) (d : Dest) (j : Jump) (s : State) : Result :=
  cStep true ⟨false, false, false, false, true, false⟩ u d j s

/-- R183, `[dest=]#a1c000011[;jump]`: out = -D - y - 1. -/
def execA1c000011 (u : BitVec 2) (d : Dest) (j : Jump) (s : State) : Result :=
  cStep true ⟨false, false, false, false, true, true⟩ u d j s

/-- R184, `[dest=]#a1c000100[;jump]`: out = D & ~y. -/
def execA1c000100 (u : BitVec 2) (d : Dest) (j : Jump) (s : State) : Result :=
  cStep true ⟨false, false, false, true, false, false⟩ u d j s

/-- R185, `[dest=]#a1c000101[;jump]`: out = ~D | y. -/
def execA1c000101 (u : BitVec 2) (d : Dest) (j : Jump) (s : State) : Result :=
  cStep true ⟨false, false, false, true, false, true⟩ u d j s

/-- R186, `[dest=]#a1c000110[;jump]`: out = D - y - 1. -/
def execA1c000110 (u : BitVec 2) (d : Dest) (j : Jump) (s : State) : Result :=
  cStep true ⟨false, false, false, true, true, false⟩ u d j s

/-- R187, `[dest=]M-D[;jump]`: out = y - D. -/
def execA1c000111 (u : BitVec 2) (d : Dest) (j : Jump) (s : State) : Result :=
  cStep true ⟨false, false, false, true, true, true⟩ u d j s

/-- R188, `[dest=]#a1c001000[;jump]`: out = 0x0000. -/
def execA1c001000 (u : BitVec 2) (d : Dest) (j : Jump) (s : State) : Result :=
  cStep true ⟨false, false, true, false, false, false⟩ u d j s

/-- R189, `[dest=]#a1c001001[;jump]`: out = 0xFFFF (-1). -/
def execA1c001001 (u : BitVec 2) (d : Dest) (j : Jump) (s : State) : Result :=
  cStep true ⟨false, false, true, false, false, true⟩ u d j s

/-- R190, `[dest=]#a1c001010[;jump]`: out = D. -/
def execA1c001010 (u : BitVec 2) (d : Dest) (j : Jump) (s : State) : Result :=
  cStep true ⟨false, false, true, false, true, false⟩ u d j s

/-- R191, `[dest=]#a1c001011[;jump]`: out = ~D. -/
def execA1c001011 (u : BitVec 2) (d : Dest) (j : Jump) (s : State) : Result :=
  cStep true ⟨false, false, true, false, true, true⟩ u d j s

/-- R192, `[dest=]#a1c001100[;jump]`: out = D. -/
def execA1c001100 (u : BitVec 2) (d : Dest) (j : Jump) (s : State) : Result :=
  cStep true ⟨false, false, true, true, false, false⟩ u d j s

/-- R193, `[dest=]#a1c001101[;jump]`: out = ~D. -/
def execA1c001101 (u : BitVec 2) (d : Dest) (j : Jump) (s : State) : Result :=
  cStep true ⟨false, false, true, true, false, true⟩ u d j s

/-- R194, `[dest=]#a1c001110[;jump]`: out = D - 1. -/
def execA1c001110 (u : BitVec 2) (d : Dest) (j : Jump) (s : State) : Result :=
  cStep true ⟨false, false, true, true, true, false⟩ u d j s

/-- R195, `[dest=]#a1c001111[;jump]`: out = -D. -/
def execA1c001111 (u : BitVec 2) (d : Dest) (j : Jump) (s : State) : Result :=
  cStep true ⟨false, false, true, true, true, true⟩ u d j s

/-- R196, `[dest=]#a1c010000[;jump]`: out = ~D & y. -/
def execA1c010000 (u : BitVec 2) (d : Dest) (j : Jump) (s : State) : Result :=
  cStep true ⟨false, true, false, false, false, false⟩ u d j s

/-- R197, `[dest=]#a1c010001[;jump]`: out = D | ~y. -/
def execA1c010001 (u : BitVec 2) (d : Dest) (j : Jump) (s : State) : Result :=
  cStep true ⟨false, true, false, false, false, true⟩ u d j s

/-- R198, `[dest=]#a1c010010[;jump]`: out = y - D - 1. -/
def execA1c010010 (u : BitVec 2) (d : Dest) (j : Jump) (s : State) : Result :=
  cStep true ⟨false, true, false, false, true, false⟩ u d j s

/-- R199, `[dest=]D-M[;jump]`: out = D - y. -/
def execA1c010011 (u : BitVec 2) (d : Dest) (j : Jump) (s : State) : Result :=
  cStep true ⟨false, true, false, false, true, true⟩ u d j s

/-- R200, `[dest=]#a1c010100[;jump]`: out = ~(D | y). -/
def execA1c010100 (u : BitVec 2) (d : Dest) (j : Jump) (s : State) : Result :=
  cStep true ⟨false, true, false, true, false, false⟩ u d j s

/-- R201, `[dest=]D|M[;jump]`: out = D | y. -/
def execA1c010101 (u : BitVec 2) (d : Dest) (j : Jump) (s : State) : Result :=
  cStep true ⟨false, true, false, true, false, true⟩ u d j s

/-- R202, `[dest=]#a1c010110[;jump]`: out = -D - y - 2. -/
def execA1c010110 (u : BitVec 2) (d : Dest) (j : Jump) (s : State) : Result :=
  cStep true ⟨false, true, false, true, true, false⟩ u d j s

/-- R203, `[dest=]#a1c010111[;jump]`: out = D + y + 1. -/
def execA1c010111 (u : BitVec 2) (d : Dest) (j : Jump) (s : State) : Result :=
  cStep true ⟨false, true, false, true, true, true⟩ u d j s

/-- R204, `[dest=]#a1c011000[;jump]`: out = 0x0000. -/
def execA1c011000 (u : BitVec 2) (d : Dest) (j : Jump) (s : State) : Result :=
  cStep true ⟨false, true, true, false, false, false⟩ u d j s

/-- R205, `[dest=]#a1c011001[;jump]`: out = 0xFFFF (-1). -/
def execA1c011001 (u : BitVec 2) (d : Dest) (j : Jump) (s : State) : Result :=
  cStep true ⟨false, true, true, false, false, true⟩ u d j s

/-- R206, `[dest=]#a1c011010[;jump]`: out = ~D. -/
def execA1c011010 (u : BitVec 2) (d : Dest) (j : Jump) (s : State) : Result :=
  cStep true ⟨false, true, true, false, true, false⟩ u d j s

/-- R207, `[dest=]#a1c011011[;jump]`: out = D. -/
def execA1c011011 (u : BitVec 2) (d : Dest) (j : Jump) (s : State) : Result :=
  cStep true ⟨false, true, true, false, true, true⟩ u d j s

/-- R208, `[dest=]#a1c011100[;jump]`: out = ~D. -/
def execA1c011100 (u : BitVec 2) (d : Dest) (j : Jump) (s : State) : Result :=
  cStep true ⟨false, true, true, true, false, false⟩ u d j s

/-- R209, `[dest=]#a1c011101[;jump]`: out = D. -/
def execA1c011101 (u : BitVec 2) (d : Dest) (j : Jump) (s : State) : Result :=
  cStep true ⟨false, true, true, true, false, true⟩ u d j s

/-- R210, `[dest=]#a1c011110[;jump]`: out = -D - 2. -/
def execA1c011110 (u : BitVec 2) (d : Dest) (j : Jump) (s : State) : Result :=
  cStep true ⟨false, true, true, true, true, false⟩ u d j s

/-- R211, `[dest=]#a1c011111[;jump]`: out = D + 1. -/
def execA1c011111 (u : BitVec 2) (d : Dest) (j : Jump) (s : State) : Result :=
  cStep true ⟨false, true, true, true, true, true⟩ u d j s

/-- R212, `[dest=]#a1c100000[;jump]`: out = 0x0000. -/
def execA1c100000 (u : BitVec 2) (d : Dest) (j : Jump) (s : State) : Result :=
  cStep true ⟨true, false, false, false, false, false⟩ u d j s

/-- R213, `[dest=]#a1c100001[;jump]`: out = 0xFFFF (-1). -/
def execA1c100001 (u : BitVec 2) (d : Dest) (j : Jump) (s : State) : Result :=
  cStep true ⟨true, false, false, false, false, true⟩ u d j s

/-- R214, `[dest=]#a1c100010[;jump]`: out = y. -/
def execA1c100010 (u : BitVec 2) (d : Dest) (j : Jump) (s : State) : Result :=
  cStep true ⟨true, false, false, false, true, false⟩ u d j s

/-- R215, `[dest=]#a1c100011[;jump]`: out = ~y. -/
def execA1c100011 (u : BitVec 2) (d : Dest) (j : Jump) (s : State) : Result :=
  cStep true ⟨true, false, false, false, true, true⟩ u d j s

/-- R216, `[dest=]#a1c100100[;jump]`: out = 0x0000. -/
def execA1c100100 (u : BitVec 2) (d : Dest) (j : Jump) (s : State) : Result :=
  cStep true ⟨true, false, false, true, false, false⟩ u d j s

/-- R217, `[dest=]#a1c100101[;jump]`: out = 0xFFFF (-1). -/
def execA1c100101 (u : BitVec 2) (d : Dest) (j : Jump) (s : State) : Result :=
  cStep true ⟨true, false, false, true, false, true⟩ u d j s

/-- R218, `[dest=]#a1c100110[;jump]`: out = ~y. -/
def execA1c100110 (u : BitVec 2) (d : Dest) (j : Jump) (s : State) : Result :=
  cStep true ⟨true, false, false, true, true, false⟩ u d j s

/-- R219, `[dest=]#a1c100111[;jump]`: out = y. -/
def execA1c100111 (u : BitVec 2) (d : Dest) (j : Jump) (s : State) : Result :=
  cStep true ⟨true, false, false, true, true, true⟩ u d j s

/-- R220, `[dest=]#a1c101000[;jump]`: out = 0x0000. -/
def execA1c101000 (u : BitVec 2) (d : Dest) (j : Jump) (s : State) : Result :=
  cStep true ⟨true, false, true, false, false, false⟩ u d j s

/-- R221, `[dest=]#a1c101001[;jump]`: out = 0xFFFF (-1). -/
def execA1c101001 (u : BitVec 2) (d : Dest) (j : Jump) (s : State) : Result :=
  cStep true ⟨true, false, true, false, false, true⟩ u d j s

/-- R222, `[dest=]#a1c101010[;jump]`: out = 0x0000. -/
def execA1c101010 (u : BitVec 2) (d : Dest) (j : Jump) (s : State) : Result :=
  cStep true ⟨true, false, true, false, true, false⟩ u d j s

/-- R223, `[dest=]#a1c101011[;jump]`: out = 0xFFFF (-1). -/
def execA1c101011 (u : BitVec 2) (d : Dest) (j : Jump) (s : State) : Result :=
  cStep true ⟨true, false, true, false, true, true⟩ u d j s

/-- R224, `[dest=]#a1c101100[;jump]`: out = 0x0000. -/
def execA1c101100 (u : BitVec 2) (d : Dest) (j : Jump) (s : State) : Result :=
  cStep true ⟨true, false, true, true, false, false⟩ u d j s

/-- R225, `[dest=]#a1c101101[;jump]`: out = 0xFFFF (-1). -/
def execA1c101101 (u : BitVec 2) (d : Dest) (j : Jump) (s : State) : Result :=
  cStep true ⟨true, false, true, true, false, true⟩ u d j s

/-- R226, `[dest=]#a1c101110[;jump]`: out = 0xFFFF (-1). -/
def execA1c101110 (u : BitVec 2) (d : Dest) (j : Jump) (s : State) : Result :=
  cStep true ⟨true, false, true, true, true, false⟩ u d j s

/-- R227, `[dest=]#a1c101111[;jump]`: out = 0x0000. -/
def execA1c101111 (u : BitVec 2) (d : Dest) (j : Jump) (s : State) : Result :=
  cStep true ⟨true, false, true, true, true, true⟩ u d j s

/-- R228, `[dest=]M[;jump]`: out = y. -/
def execA1c110000 (u : BitVec 2) (d : Dest) (j : Jump) (s : State) : Result :=
  cStep true ⟨true, true, false, false, false, false⟩ u d j s

/-- R229, `[dest=]!M[;jump]`: out = ~y. -/
def execA1c110001 (u : BitVec 2) (d : Dest) (j : Jump) (s : State) : Result :=
  cStep true ⟨true, true, false, false, false, true⟩ u d j s

/-- R230, `[dest=]M-1[;jump]`: out = y - 1. -/
def execA1c110010 (u : BitVec 2) (d : Dest) (j : Jump) (s : State) : Result :=
  cStep true ⟨true, true, false, false, true, false⟩ u d j s

/-- R231, `[dest=]-M[;jump]`: out = -y. -/
def execA1c110011 (u : BitVec 2) (d : Dest) (j : Jump) (s : State) : Result :=
  cStep true ⟨true, true, false, false, true, true⟩ u d j s

/-- R232, `[dest=]#a1c110100[;jump]`: out = ~y. -/
def execA1c110100 (u : BitVec 2) (d : Dest) (j : Jump) (s : State) : Result :=
  cStep true ⟨true, true, false, true, false, false⟩ u d j s

/-- R233, `[dest=]#a1c110101[;jump]`: out = y. -/
def execA1c110101 (u : BitVec 2) (d : Dest) (j : Jump) (s : State) : Result :=
  cStep true ⟨true, true, false, true, false, true⟩ u d j s

/-- R234, `[dest=]#a1c110110[;jump]`: out = -y - 2. -/
def execA1c110110 (u : BitVec 2) (d : Dest) (j : Jump) (s : State) : Result :=
  cStep true ⟨true, true, false, true, true, false⟩ u d j s

/-- R235, `[dest=]M+1[;jump]`: out = y + 1. -/
def execA1c110111 (u : BitVec 2) (d : Dest) (j : Jump) (s : State) : Result :=
  cStep true ⟨true, true, false, true, true, true⟩ u d j s

/-- R236, `[dest=]#a1c111000[;jump]`: out = 0x0000. -/
def execA1c111000 (u : BitVec 2) (d : Dest) (j : Jump) (s : State) : Result :=
  cStep true ⟨true, true, true, false, false, false⟩ u d j s

/-- R237, `[dest=]#a1c111001[;jump]`: out = 0xFFFF (-1). -/
def execA1c111001 (u : BitVec 2) (d : Dest) (j : Jump) (s : State) : Result :=
  cStep true ⟨true, true, true, false, false, true⟩ u d j s

/-- R238, `[dest=]#a1c111010[;jump]`: out = 0xFFFF (-1). -/
def execA1c111010 (u : BitVec 2) (d : Dest) (j : Jump) (s : State) : Result :=
  cStep true ⟨true, true, true, false, true, false⟩ u d j s

/-- R239, `[dest=]#a1c111011[;jump]`: out = 0x0000. -/
def execA1c111011 (u : BitVec 2) (d : Dest) (j : Jump) (s : State) : Result :=
  cStep true ⟨true, true, true, false, true, true⟩ u d j s

/-- R240, `[dest=]#a1c111100[;jump]`: out = 0xFFFF (-1). -/
def execA1c111100 (u : BitVec 2) (d : Dest) (j : Jump) (s : State) : Result :=
  cStep true ⟨true, true, true, true, false, false⟩ u d j s

/-- R241, `[dest=]#a1c111101[;jump]`: out = 0x0000. -/
def execA1c111101 (u : BitVec 2) (d : Dest) (j : Jump) (s : State) : Result :=
  cStep true ⟨true, true, true, true, false, true⟩ u d j s

/-- R242, `[dest=]#a1c111110[;jump]`: out = 0xFFFE (-2). -/
def execA1c111110 (u : BitVec 2) (d : Dest) (j : Jump) (s : State) : Result :=
  cStep true ⟨true, true, true, true, true, false⟩ u d j s

/-- R243, `[dest=]#a1c111111[;jump]`: out = 0x0001. -/
def execA1c111111 (u : BitVec 2) (d : Dest) (j : Jump) (s : State) : Result :=
  cStep true ⟨true, true, true, true, true, true⟩ u d j s

end Sys2Proof.Machine
end

