-- ==== Sys2Proof/Machine/Dispatch.lean ====
section
/-! DEFINITION. What each instruction does: one arm per constructor of Instr, each one call of its meaning. -/

namespace Sys2Proof.Machine

def exec (i : Instr) (s : State) : Host.Outcome State Fault Refusal :=
  match i with
  | .atV literal => Sys2Proof.Machine.execAtV literal s
  | .a0c000000 u d j => Sys2Proof.Machine.execA0c000000 u d j s
  | .a0c000001 u d j => Sys2Proof.Machine.execA0c000001 u d j s
  | .a0c000010 u d j => Sys2Proof.Machine.execA0c000010 u d j s
  | .a0c000011 u d j => Sys2Proof.Machine.execA0c000011 u d j s
  | .a0c000100 u d j => Sys2Proof.Machine.execA0c000100 u d j s
  | .a0c000101 u d j => Sys2Proof.Machine.execA0c000101 u d j s
  | .a0c000110 u d j => Sys2Proof.Machine.execA0c000110 u d j s
  | .a0c000111 u d j => Sys2Proof.Machine.execA0c000111 u d j s
  | .a0c001000 u d j => Sys2Proof.Machine.execA0c001000 u d j s
  | .a0c001001 u d j => Sys2Proof.Machine.execA0c001001 u d j s
  | .a0c001010 u d j => Sys2Proof.Machine.execA0c001010 u d j s
  | .a0c001011 u d j => Sys2Proof.Machine.execA0c001011 u d j s
  | .a0c001100 u d j => Sys2Proof.Machine.execA0c001100 u d j s
  | .a0c001101 u d j => Sys2Proof.Machine.execA0c001101 u d j s
  | .a0c001110 u d j => Sys2Proof.Machine.execA0c001110 u d j s
  | .a0c001111 u d j => Sys2Proof.Machine.execA0c001111 u d j s
  | .a0c010000 u d j => Sys2Proof.Machine.execA0c010000 u d j s
  | .a0c010001 u d j => Sys2Proof.Machine.execA0c010001 u d j s
  | .a0c010010 u d j => Sys2Proof.Machine.execA0c010010 u d j s
  | .a0c010011 u d j => Sys2Proof.Machine.execA0c010011 u d j s
  | .a0c010100 u d j => Sys2Proof.Machine.execA0c010100 u d j s
  | .a0c010101 u d j => Sys2Proof.Machine.execA0c010101 u d j s
  | .a0c010110 u d j => Sys2Proof.Machine.execA0c010110 u d j s
  | .a0c010111 u d j => Sys2Proof.Machine.execA0c010111 u d j s
  | .a0c011000 u d j => Sys2Proof.Machine.execA0c011000 u d j s
  | .a0c011001 u d j => Sys2Proof.Machine.execA0c011001 u d j s
  | .a0c011010 u d j => Sys2Proof.Machine.execA0c011010 u d j s
  | .a0c011011 u d j => Sys2Proof.Machine.execA0c011011 u d j s
  | .a0c011100 u d j => Sys2Proof.Machine.execA0c011100 u d j s
  | .a0c011101 u d j => Sys2Proof.Machine.execA0c011101 u d j s
  | .a0c011110 u d j => Sys2Proof.Machine.execA0c011110 u d j s
  | .a0c011111 u d j => Sys2Proof.Machine.execA0c011111 u d j s
  | .a0c100000 u d j => Sys2Proof.Machine.execA0c100000 u d j s
  | .a0c100001 u d j => Sys2Proof.Machine.execA0c100001 u d j s
  | .a0c100010 u d j => Sys2Proof.Machine.execA0c100010 u d j s
  | .a0c100011 u d j => Sys2Proof.Machine.execA0c100011 u d j s
  | .a0c100100 u d j => Sys2Proof.Machine.execA0c100100 u d j s
  | .a0c100101 u d j => Sys2Proof.Machine.execA0c100101 u d j s
  | .a0c100110 u d j => Sys2Proof.Machine.execA0c100110 u d j s
  | .a0c100111 u d j => Sys2Proof.Machine.execA0c100111 u d j s
  | .a0c101000 u d j => Sys2Proof.Machine.execA0c101000 u d j s
  | .a0c101001 u d j => Sys2Proof.Machine.execA0c101001 u d j s
  | .a0c101010 u d j => Sys2Proof.Machine.execA0c101010 u d j s
  | .a0c101011 u d j => Sys2Proof.Machine.execA0c101011 u d j s
  | .a0c101100 u d j => Sys2Proof.Machine.execA0c101100 u d j s
  | .a0c101101 u d j => Sys2Proof.Machine.execA0c101101 u d j s
  | .a0c101110 u d j => Sys2Proof.Machine.execA0c101110 u d j s
  | .a0c101111 u d j => Sys2Proof.Machine.execA0c101111 u d j s
  | .a0c110000 u d j => Sys2Proof.Machine.execA0c110000 u d j s
  | .a0c110001 u d j => Sys2Proof.Machine.execA0c110001 u d j s
  | .a0c110010 u d j => Sys2Proof.Machine.execA0c110010 u d j s
  | .a0c110011 u d j => Sys2Proof.Machine.execA0c110011 u d j s
  | .a0c110100 u d j => Sys2Proof.Machine.execA0c110100 u d j s
  | .a0c110101 u d j => Sys2Proof.Machine.execA0c110101 u d j s
  | .a0c110110 u d j => Sys2Proof.Machine.execA0c110110 u d j s
  | .a0c110111 u d j => Sys2Proof.Machine.execA0c110111 u d j s
  | .a0c111000 u d j => Sys2Proof.Machine.execA0c111000 u d j s
  | .a0c111001 u d j => Sys2Proof.Machine.execA0c111001 u d j s
  | .a0c111010 u d j => Sys2Proof.Machine.execA0c111010 u d j s
  | .a0c111011 u d j => Sys2Proof.Machine.execA0c111011 u d j s
  | .a0c111100 u d j => Sys2Proof.Machine.execA0c111100 u d j s
  | .a0c111101 u d j => Sys2Proof.Machine.execA0c111101 u d j s
  | .a0c111110 u d j => Sys2Proof.Machine.execA0c111110 u d j s
  | .a0c111111 u d j => Sys2Proof.Machine.execA0c111111 u d j s
  | .a1c000000 u d j => Sys2Proof.Machine.execA1c000000 u d j s
  | .a1c000001 u d j => Sys2Proof.Machine.execA1c000001 u d j s
  | .a1c000010 u d j => Sys2Proof.Machine.execA1c000010 u d j s
  | .a1c000011 u d j => Sys2Proof.Machine.execA1c000011 u d j s
  | .a1c000100 u d j => Sys2Proof.Machine.execA1c000100 u d j s
  | .a1c000101 u d j => Sys2Proof.Machine.execA1c000101 u d j s
  | .a1c000110 u d j => Sys2Proof.Machine.execA1c000110 u d j s
  | .a1c000111 u d j => Sys2Proof.Machine.execA1c000111 u d j s
  | .a1c001000 u d j => Sys2Proof.Machine.execA1c001000 u d j s
  | .a1c001001 u d j => Sys2Proof.Machine.execA1c001001 u d j s
  | .a1c001010 u d j => Sys2Proof.Machine.execA1c001010 u d j s
  | .a1c001011 u d j => Sys2Proof.Machine.execA1c001011 u d j s
  | .a1c001100 u d j => Sys2Proof.Machine.execA1c001100 u d j s
  | .a1c001101 u d j => Sys2Proof.Machine.execA1c001101 u d j s
  | .a1c001110 u d j => Sys2Proof.Machine.execA1c001110 u d j s
  | .a1c001111 u d j => Sys2Proof.Machine.execA1c001111 u d j s
  | .a1c010000 u d j => Sys2Proof.Machine.execA1c010000 u d j s
  | .a1c010001 u d j => Sys2Proof.Machine.execA1c010001 u d j s
  | .a1c010010 u d j => Sys2Proof.Machine.execA1c010010 u d j s
  | .a1c010011 u d j => Sys2Proof.Machine.execA1c010011 u d j s
  | .a1c010100 u d j => Sys2Proof.Machine.execA1c010100 u d j s
  | .a1c010101 u d j => Sys2Proof.Machine.execA1c010101 u d j s
  | .a1c010110 u d j => Sys2Proof.Machine.execA1c010110 u d j s
  | .a1c010111 u d j => Sys2Proof.Machine.execA1c010111 u d j s
  | .a1c011000 u d j => Sys2Proof.Machine.execA1c011000 u d j s
  | .a1c011001 u d j => Sys2Proof.Machine.execA1c011001 u d j s
  | .a1c011010 u d j => Sys2Proof.Machine.execA1c011010 u d j s
  | .a1c011011 u d j => Sys2Proof.Machine.execA1c011011 u d j s
  | .a1c011100 u d j => Sys2Proof.Machine.execA1c011100 u d j s
  | .a1c011101 u d j => Sys2Proof.Machine.execA1c011101 u d j s
  | .a1c011110 u d j => Sys2Proof.Machine.execA1c011110 u d j s
  | .a1c011111 u d j => Sys2Proof.Machine.execA1c011111 u d j s
  | .a1c100000 u d j => Sys2Proof.Machine.execA1c100000 u d j s
  | .a1c100001 u d j => Sys2Proof.Machine.execA1c100001 u d j s
  | .a1c100010 u d j => Sys2Proof.Machine.execA1c100010 u d j s
  | .a1c100011 u d j => Sys2Proof.Machine.execA1c100011 u d j s
  | .a1c100100 u d j => Sys2Proof.Machine.execA1c100100 u d j s
  | .a1c100101 u d j => Sys2Proof.Machine.execA1c100101 u d j s
  | .a1c100110 u d j => Sys2Proof.Machine.execA1c100110 u d j s
  | .a1c100111 u d j => Sys2Proof.Machine.execA1c100111 u d j s
  | .a1c101000 u d j => Sys2Proof.Machine.execA1c101000 u d j s
  | .a1c101001 u d j => Sys2Proof.Machine.execA1c101001 u d j s
  | .a1c101010 u d j => Sys2Proof.Machine.execA1c101010 u d j s
  | .a1c101011 u d j => Sys2Proof.Machine.execA1c101011 u d j s
  | .a1c101100 u d j => Sys2Proof.Machine.execA1c101100 u d j s
  | .a1c101101 u d j => Sys2Proof.Machine.execA1c101101 u d j s
  | .a1c101110 u d j => Sys2Proof.Machine.execA1c101110 u d j s
  | .a1c101111 u d j => Sys2Proof.Machine.execA1c101111 u d j s
  | .a1c110000 u d j => Sys2Proof.Machine.execA1c110000 u d j s
  | .a1c110001 u d j => Sys2Proof.Machine.execA1c110001 u d j s
  | .a1c110010 u d j => Sys2Proof.Machine.execA1c110010 u d j s
  | .a1c110011 u d j => Sys2Proof.Machine.execA1c110011 u d j s
  | .a1c110100 u d j => Sys2Proof.Machine.execA1c110100 u d j s
  | .a1c110101 u d j => Sys2Proof.Machine.execA1c110101 u d j s
  | .a1c110110 u d j => Sys2Proof.Machine.execA1c110110 u d j s
  | .a1c110111 u d j => Sys2Proof.Machine.execA1c110111 u d j s
  | .a1c111000 u d j => Sys2Proof.Machine.execA1c111000 u d j s
  | .a1c111001 u d j => Sys2Proof.Machine.execA1c111001 u d j s
  | .a1c111010 u d j => Sys2Proof.Machine.execA1c111010 u d j s
  | .a1c111011 u d j => Sys2Proof.Machine.execA1c111011 u d j s
  | .a1c111100 u d j => Sys2Proof.Machine.execA1c111100 u d j s
  | .a1c111101 u d j => Sys2Proof.Machine.execA1c111101 u d j s
  | .a1c111110 u d j => Sys2Proof.Machine.execA1c111110 u d j s
  | .a1c111111 u d j => Sys2Proof.Machine.execA1c111111 u d j s

end Sys2Proof.Machine
end

