-- ==== Sys2Proof/Machine/Keyboard.lean ====
section
/-! DEFINITION. The Keyboard Bridge (60_exceptions.md R330 to R338). -/

namespace Sys2Proof.Machine

/-- R333: the key code table; `none` for a key with no entry, which produces no event (R335, D15). -/
def keyCode (k : HostKey) : Option Word :=
  match k with
  | .ascii c => if 32 ≤ c.toNat ∧ c.toNat ≤ 126 then some (c.setWidth 16) else none
  | .enter => some 128
  | .backspace => some 129
  | .left => some 130
  | .up => some 131
  | .right => some 132
  | .down => some 133
  | .home => some 134
  | .endKey => some 135
  | .pageUp => some 136
  | .pageDown => some 137
  | .insert => some 138
  | .delete => some 139
  | .escape => some 140
  | .function i => some (BitVec.ofNat 16 (141 + i.val))
  | .unmapped => none

/-- R336: the keyboard register, RAM[24576], and never another cell. -/
def writeKeyboard (s : State) (v : Word) : State := memWrite s (BitVec.ofNat 16 kbdAddr) v

/-- R331, R335: `onKeyDown(k)` writes `RAM[24576] := code(k)`; a key with no entry in the table is no event.
R346: in Stopped no key event is delivered. -/
def keyDown (k : HostKey) (s : State) : State :=
  match s.run, keyCode k with
  | .stopped, _ => s
  | .running, some v => writeKeyboard s v
  | .paused, some v => writeKeyboard s v
  | .running, none => s
  | .paused, none => s

/-- R332: `onKeyUp()` writes `RAM[24576] := 0`, whatever was held (D29). R346: not in Stopped. -/
def keyUp (s : State) : State :=
  match s.run with
  | .stopped => s
  | .running => writeKeyboard s 0
  | .paused => writeKeyboard s 0

/-- R330: the Word a program reads at 24576. -/
def keyboardRegister (s : State) : Word := s.ram.read kbdAddr

end Sys2Proof.Machine
end

