-- ==== Sys2Proof/Machine/Loader.lean ====
section
/-! DEFINITION. The Loader's interface (70_reset_and_hazards.md R410 to R416; 60_exceptions.md R311). -/

namespace Sys2Proof.Machine

/-- The byte LF, which ends a line (R412). -/
def byteLf : Byte := 0x0A

/-- The byte CR, one of which is removed at the end of a line (R412, D18). -/
def byteCr : Byte := 0x0D

/-- The character '0'. -/
def byteZero : Byte := 0x30

/-- The character '1'. -/
def byteOne : Byte := 0x31

/-- R411: Word i is `b[2i] | (b[2i+1] << 8)`; a final odd byte is ignored (D17). -/
def parseBin (bytes : List Byte) : List Word :=
  match bytes with
  | lo :: hi :: rest => wordOfBytes lo hi :: parseBin rest
  | [_] => []
  | [] => []

/-- R412: the lines of a file, split at each LF; the last line need not end with one. -/
def splitLines (bytes : List Byte) : List (List Byte) :=
  match bytes with
  | [] => [[]]
  | b :: rest =>
    if b = byteLf then [] :: splitLines rest
    else
      match splitLines rest with
      | [] => [[b]]
      | line :: lines => (b :: line) :: lines

/-- R412: "One CR (0x0D) at the end of a line is removed before the line is checked." -/
def stripCr (line : List Byte) : List Byte :=
  if line.getLast? = some byteCr then line.dropLast else line

/-- R412: a character of an accepted line. -/
def isBinaryDigit (b : Byte) : Bool := decide (b = byteZero) || decide (b = byteOne)

/-- R412: the Word of an accepted line, its first character w[15]. -/
def wordOfLine (line : List Byte) : Word :=
  line.foldl (fun w b => (w <<< 1) ||| (if b = byteOne then 1 else 0)) 0

/-- R412: "A line is accepted iff it has exactly 16 characters and each is '0' or '1'." Every other line is skipped. -/
def acceptLine (line : List Byte) : Option Word :=
  if line.length = 16 ∧ line.all isBinaryDigit = true then some (wordOfLine line) else none

/-- R412: the accepted lines' Words, in order. -/
def parseHack (bytes : List Byte) : List Word :=
  (splitLines bytes).filterMap fun line => acceptLine (stripCr line)

/-- R410, R413: the fresh buffer: the first 32768 Words, 0x0000 after them. -/
def imageOf (ws : List Word) : Memory := Memory.ofWords 0 (ws.take romWords)

/-- R410: whether a path ends in an extension, exactly and case-sensitively (D19). -/
def hasExtension (path ext : String) : Bool := ext.toList.isSuffixOf path.toList

/-- R410 to R414: the Instruction Store a file parses to; `none` is LoadError: the file cannot be read, or its extension is
neither `.bin` nor `.hack`. No content makes a load fail. -/
def loadImage (file : HostFile) : Option Memory :=
  match file.bytes with
  | none => none
  | some bytes =>
    if hasExtension file.path ".bin" then some (imageOf (parseBin bytes))
    else if hasExtension file.path ".hack" then some (imageOf (parseHack bytes))
    else none

/-- R415, R416, R311: a successful load replaces the Instruction Store and nothing else; a failed one, and any in Stopped,
changes nothing. -/
def loadFile (file : HostFile) (s : State) : State :=
  match s.run, loadImage file with
  | .stopped, _ => s
  | .running, some image => setRom s image
  | .paused, some image => setRom s image
  | .running, none => s
  | .paused, none => s

end Sys2Proof.Machine
end

