-- ==== Sys2Proof/Machine/Screen.lean ====
section
/-! DEFINITION. The Screen Bridge (60_exceptions.md R320 to R324): it reads RAM and writes nothing, so it is a function of the
Memory Bank and no part of State (10_state.md R32, 92_eei_decisions.md D21). -/

namespace Sys2Proof.Machine

/-- R320: the RAM address of row r, word column k: `16384 + 32*r + k`. -/
def screenAddr (row col : Nat) : Nat := screenBase + 32 * row + col

/-- R321: `pixels(RAM)(x, y) = RAM[16384 + 32*y + x/16][15 - (x mod 16)]`: bit 15 is the leftmost pixel (90_conflicts.md C2). -/
def pixel (ram : Memory) (x : Fin 512) (y : Fin 256) : Bool :=
  (ram.read (screenAddr y.val (x.val / 16))).getLsbD (15 - x.val % 16)

/-- R32, R324: the published view, the 512 x 256 framebuffer of 1-bit pixels, read at an event boundary. -/
def pixels (s : State) (x : Fin 512) (y : Fin 256) : Bool := pixel s.ram x y

/-- R322: whether a write at this address makes the bridge republish a word. -/
def onScreen (addr : Nat) : Bool := decide (screenBase ≤ addr) && decide (addr < screenEnd)

/-- R320: the row of pixels a screen word lies in. -/
def screenRow (addr : Nat) : Nat := (addr - screenBase) / 32

/-- R320: the word column of a screen word. -/
def screenCol (addr : Nat) : Nat := (addr - screenBase) % 32

/-- R321, R322: the 16 pixels the word at a screen address covers, each with its place (x, y) and whether it is lit,
leftmost first; nothing is published for an address off the screen. -/
def publishedBy (ram : Memory) (addr : Nat) : List ((Nat × Nat) × Bool) :=
  if onScreen addr then
    (List.range 16).map fun i =>
      ((16 * screenCol addr + i, screenRow addr), (ram.read addr).getLsbD (15 - i))
  else []

end Sys2Proof.Machine
end

