-- ==== Sys2Proof/Machine/Engine.lean ====
section
/-! DEFINITION. The Execution Engine (60_exceptions.md R342, R345) and what each event of the total order does
(20_memory.md R64; 60_exceptions.md R341, R354). -/

namespace Sys2Proof.Machine

/-- R342: fetch, decode and execute exactly one instruction. -/
def instructionStep (s : State) : Result := exec (decodeWord (fetch s)) s

/-- R342: "enabled iff fault = none and either run = Running, or run is not Running and grace > 0". -/
def continuousEnabled (s : State) : Bool :=
  s.fault.isNone && (decide (s.run = .running) || decide (0 < s.grace))

/-- R342: a continuous step taken while run is not Running decrements grace by 1. That a lag step which raises an
AddressFault spends its grace too is the model's DESIGN CHOICE (log entry 17): R342 says the step decrements grace "when it
runs", R152 and R303 say the fault record is the only state a faulting step changes. -/
def spendGrace (s : State) : State :=
  match s.run with
  | .running => s
  | .paused => setGrace s (s.grace - 1)
  | .stopped => setGrace s (s.grace - 1)

/-- R342: the engine's turn: one continuous step, where it is enabled; else nothing happens (R304; log entry 4). Grace is
spent before the instruction executes, so a lag step that faults leaves grace one less beside its fault record: the spec
leaves that point open between R342 and R303, and this is the model's DESIGN CHOICE (log entry 17). -/
def engineTurn (s : State) : Result :=
  if continuousEnabled s then instructionStep (spendGrace s) else .next s

/-- R345: whether the host's `step()` executes an instruction. -/
def singleStepEnabled (s : State) : Bool := s.fault.isNone && !decide (s.run = .stopped)

/-- R345: the host's `step()`: exactly one instruction step, run and grace unchanged; no effect in Stopped or faulted. -/
def stepCommand (s : State) : Result :=
  if singleStepEnabled s then instructionStep s else .next s

/-- R64, R341, R354: one atomic event. -/
def applyEvent (e : Event) (s : State) : Result :=
  match e with
  | .engine => engineTurn s
  | .load file => .next (loadFile file s)
  | .run => .next (runCommand s)
  | .pause => .next (pauseCommand s)
  | .step => stepCommand s
  | .reset => .next (resetCommand s)
  | .setRate r => .next (setRateCommand r s)
  | .windowClose => .next (closeWindow s)
  | .keyDown k => .next (keyDown k s)
  | .keyUp => .next (keyUp s)
  | .query => .next s
  | .readState => .next s

/-- R64: the next event of the total order: the head of the schedule, or, where nothing is scheduled, the engine's turn. -/
def nextEvent (s : State) : Result :=
  match s.schedule with
  | [] => engineTurn s
  | e :: rest => applyEvent e (setSchedule s rest)

/-- What the host gets back from a command (R354). -/
inductive Reply where
  | nothing
  | loaded
  | loadError
  | answer (isRunning isPaused : Bool)
  /-- R354, R355: committed PC, A, D, RAM and fault; the pixels are `pixel` of the RAM (R321). -/
  | committed (pc : RomIndex) (a d : Word) (ram : Memory) (fault : Option AddressFault)
  /-- R416: what `load()` reports in Stopped "is not modelled" by the spec. -/
  | unspecified
  deriving DecidableEq, Repr

/-- R354, R311, R347: the reply to an event in the state it is applied to. -/
def reply (e : Event) (s : State) : Reply :=
  match e with
  | .engine => .nothing
  | .load file =>
    if s.run = .stopped then .unspecified
    else if (loadImage file).isSome then .loaded else .loadError
  | .run => .nothing
  | .pause => .nothing
  | .step => .nothing
  | .reset => .nothing
  | .setRate _ => .nothing
  | .windowClose => .nothing
  | .keyDown _ => .nothing
  | .keyUp => .nothing
  | .query => .answer (isRunning s) (isPaused s)
  | .readState => .committed s.pc s.a s.d s.ram s.fault

/-- An instruction word placed where the next fetch reads it, in a machine whose very next event is the engine executing it:
the load and the `run()` of R403, the fault record none and nothing scheduled before it (log entry 6). -/
def placeWord (s : State) (word : Word) : State :=
  { s with
    rom := s.rom.write s.pc.toNat word
    run := .running
    fault := none
    schedule := [] }

end Sys2Proof.Machine
end

