-- ==== Sys2Proof/Safety.lean ====
section
/-! DEFINITION. The terms claims are stated in: the machine's invariant, a safe state, parked states, the halt idiom, the
lag of a pause (60_exceptions.md R344), the host's duties (R355) and the end of a run (70_reset_and_hazards.md R440, R441). -/

namespace Sys2Proof

open Sys2Proof.Machine

/-- R30, R301: what a fault record can hold: the address out of the range its kind tests, and a C-instruction's word. -/
def AddressFault.sound (f : AddressFault) : Bool :=
  match f.kind with
  | .ramRead => decide (ramWords ≤ uint f.addr) && f.word.getLsbD 15 && f.word.getLsbD 12
  | .ramWrite => decide (ramWords ≤ uint f.addr) && f.word.getLsbD 15 && f.word.getLsbD 3
  | .jumpTarget => decide (romWords ≤ uint f.addr) && f.word.getLsbD 15 && decide (f.word.extractLsb' 0 3 ≠ 0)

/-- The fault record holds nothing, or something `AddressFault.sound` admits. -/
def faultSound (f : Option AddressFault) : Bool :=
  match f with
  | none => true
  | some r => AddressFault.sound r

/-- What holds of every state of a machine instance: both memories in canonical form within their sizes (R26, R27), the rate
at least 1 (R29), grace at most PAUSE_LAG (R33), the fault record as R301 fills it. -/
structure Invariant (s : State) : Prop where
  rom_wf : Memory.wf romWords s.rom = true
  ram_wf : Memory.wf ramWords s.ram = true
  rate_pos : 1 ≤ s.rate
  grace_le : s.grace ≤ Config.pauseLag
  fault_sound : faultSound s.fault = true

/-- A safe state: no AddressFault has been recorded (R441: "A fault is never an end"). -/
def Safe (s : State) : Prop := s.fault = none

/-- R440: ROM[PC] is a C-instruction with dest = 000 whose jump condition holds, uint(A) = PC, and a = 0 or uint(A) < 24577. -/
def parkedWord (s : State) (w : Word) : Bool :=
  (decodeFields w).isC && decide (destOf w = ⟨false, false, false⟩) && decide (uint s.a = s.pc.toNat) &&
    (match operandY (decodeFields w).a s with
     | none => false
     | some y => jumpTaken (jumpOf w) (alu (ctrlOf w) (operandX s) y))

/-- R440: a parked state. -/
def parked (s : State) : Bool := s.fault.isNone && parkedWord s (fetch s)

/-- R440: the two-word halt idiom at index h: `@h` at h and `0;JMP`, word 0xEA87, at h + 1, with h <= 32766. -/
def HaltIdiomAt (h : Nat) (rom : Memory) : Prop :=
  h ≤ 32766 ∧ rom.read h = BitVec.ofNat 16 h ∧ rom.read (h + 1) = 0xEA87#16

/-- R440: in the halt idiom's loop: at h, or at h + 1 with A = h. -/
def InHaltLoop (h : Nat) (s : State) : Prop :=
  HaltIdiomAt h s.rom ∧ (s.pc.toNat = h ∨ (s.pc.toNat = h + 1 ∧ uint s.a = h))

/-- `n` steps of the machine, one event each. -/
def steps (n : Nat) (s : State) : Result := Host.Core.run core n s

/-- R342: whether the next event is a continuous step: the engine's turn, scheduled or not, where one is enabled. -/
def takesContinuousStep (s : State) : Bool :=
  continuousEnabled s &&
    (match s.schedule with
     | [] => true
     | e :: _ => decide (e = .engine))

/-- R344: how many of the next `n` events are continuous steps. -/
def continuousSteps (n : Nat) (s : State) : Nat :=
  match n with
  | 0 => 0
  | n + 1 =>
    (if takesContinuousStep s then 1 else 0) +
      (match step s with
       | .next t => continuousSteps n t
       | .fault _ => 0
       | .refused _ => 0)

/-- R341: the next event is a `run()` in Paused, the one event that enters Running. -/
def Resumes (s : State) : Prop := s.run = .paused ∧ s.schedule.head? = some .run

/-- R441: what holds of the state at the end of a run at halt index h: PC = h, fault = none and run is not Stopped. -/
def EndedAt (h : Nat) (s : State) : Prop := s.pc.toNat = h ∧ s.fault = none ∧ s.run ≠ .stopped

/-- R441: a halt index a claim may name: its ROM words are the halt idiom, or its word is parked. "Parked" is a property of
a state (R440), so the word at h is read as parked when some state at h with this Instruction Store is (log entry 18). -/
def HaltIndex (h : Nat) (rom : Memory) : Prop :=
  HaltIdiomAt h rom ∨ ∃ t : State, t.rom = rom ∧ t.pc.toNat = h ∧ parked t = true

/-- R441: none of the first `n - 1` events of the run from `s` ends it. -/
def NoEndBefore (h n : Nat) (s : State) : Prop :=
  ∀ m t, 0 < m → m < n → steps m s = .next t → ¬ EndedAt h t

/-- R441: the run from `s` ends at its n-th event, in `t`: "the first event after which PC = h, fault = none and run is not
Stopped". An end is after an event, so the state the run starts in is none (log entry 18). -/
def EndsAfter (h n : Nat) (s t : State) : Prop :=
  0 < n ∧ steps n s = .next t ∧ EndedAt h t ∧ NoEndBefore h n s

/-- R441: the run from `s` has reached fault ≠ none after `n` events, and no event before that ended it. -/
def RunFaults (h n : Nat) (s : State) : Prop :=
  ∃ t, steps n s = .next t ∧ ¬ Safe t ∧ NoEndBefore h n s

/-- R355: whether an event keeps the host's duties. Duty (1): a key event names a logical key of R333, so a key with no entry
in the table breaks it (D15). Duties (2) and (3) no event can break: a read is an event between others, and a rate is a
natural number. -/
def keepsDuty (e : Event) : Bool :=
  match e with
  | .keyDown k => (keyCode k).isSome
  | .engine => true
  | .load _ => true
  | .run => true
  | .pause => true
  | .step => true
  | .reset => true
  | .setRate _ => true
  | .windowClose => true
  | .keyUp => true
  | .query => true
  | .readState => true

/-- R355: the host breaks no duty in the next `n` events. -/
def keepsDuties (n : Nat) (s : State) : Bool := (s.schedule.take n).all keepsDuty

/-- R441: a claim and when it holds. The claim names the halt index h, the states it speaks of (`premise`, which says what
the claim assumes of the host's free inputs in `schedule`) and a postcondition on A, D and RAM. Every run from such a state
that ends meets `post` at its FIRST end; a run that faults before an end refutes the claim; a run that is closed before an
end, or that never ends, says nothing. R355: the claim says nothing of a run in which the host breaks a duty, so an end and
a fault count only where no event up to it broke one (log entry 18). "ROM words" (R441) are those of the Instruction Store in the run's
first state, where a `load()` falls inside the run as elsewhere: the spec does not say which store it means, and this is the
model's DESIGN CHOICE (log entry 19). -/
def ClaimHolds (h : Nat) (premise : State → Prop) (post : Word → Word → Memory → Prop) : Prop :=
  ∀ s, premise s → HaltIndex h s.rom ∧
    ∀ n, keepsDuties n s = true → ¬ RunFaults h n s ∧ ∀ t, EndsAfter h n s t → post t.a t.d t.ram

end Sys2Proof
end

