-- ==== Sys2Proof/Certificates/Slice0/Obligations.lean ====
section
/-! DEFINITION. The statements about this machine, from the spec's numbered rules, and the terms they share. -/

namespace Sys2Proof

open Sys2Proof.Machine

/-- R150: the jump condition, as the rule words it. -/
abbrev Takes (j : Jump) (out : Word) : Prop :=
  (j.lt = true ∧ sint out < 0) ∨ (j.eq = true ∧ out = 0) ∨ (j.gt = true ∧ 0 < sint out)

/-- R95, R141: the y input where the M read's address is in range. -/
abbrev yOf (a : Bool) (s : State) : Word := if a then s.ram.read (uint s.a) else s.a

/-- R140: no fault check of a C-instruction fires. -/
abbrev RunsClean (a : Bool) (d : Dest) (j : Jump) (out : Word) (s : State) : Prop :=
  ((a = true ∨ d.toM = true) → uint s.a < 24577) ∧ (Takes j out → uint s.a < 32768)

/-- R140, R151, R153, R154: the state a C-instruction commits: `out` to the destinations its dest field selects, M at the
pre-instruction A, and the PC; every other piece of state as it was. -/
def afterC (d : Dest) (j : Jump) (out : Word) (s : State) : State :=
  { s with
    pc := if Takes j out then BitVec.ofNat 15 (uint s.a) else BitVec.ofNat 15 ((s.pc.toNat + 1) % 32768)
    a := if d.toA then out else s.a
    d := if d.toD then out else s.d
    ram := if d.toM then s.ram.write (uint s.a) out else s.ram }

/-- R303: the state after an AddressFault: the fault record is the only state that changes. -/
def afterFault (k : FaultKind) (w : Word) (s : State) : State := { s with fault := some ⟨k, s.pc, w, s.a⟩ }

/-- R302: the kind of the first fault check that fires, where one does: RamRead, then RamWrite, then JumpTarget. -/
def firstFault (a : Bool) (d : Dest) (s : State) : FaultKind :=
  if 24577 ≤ uint s.a ∧ a = true then .ramRead
  else if 24577 ≤ uint s.a ∧ d.toM = true then .ramWrite
  else .jumpTarget

/-- What a rule R180 to R243 says of one opcode-table row: its match under mask 0x9FC0, its mnemonic, and its result
`out = f D y` in every state: it commits `out` where no check of R140 fires, and raises an AddressFault where one does. -/
structure CompRow (a : Bool) (pattern : Word) (mnemonic : String) (mk : BitVec 2 → Dest → Jump → Instr)
    (f : Word → Word → Word) : Prop where
  encoding : ∀ w : Word, w &&& 0x9FC0#16 = pattern ↔ ∃ u d j, decodeWord w = mk u d j
  name : ∀ u, (disassemble (encode (mk u ⟨false, false, false⟩ ⟨false, false, false⟩))).toList = mnemonic.toList
  result : ∀ u d j s, RunsClean a d j (f s.d (yOf a s)) s →
    exec (mk u d j) s = .next (afterC d j (f s.d (yOf a s)) s)
  exceptions : ∀ u d j s, ¬ RunsClean a d j (f s.d (yOf a s)) s →
    exec (mk u d j) s = .next (afterFault (firstFault a d s) (encode (mk u d j)) s)

/-- R250 to R257: one value of the dest field: its bits, what it writes and what it leaves, and its exception. -/
structure DestRule (bits : BitVec 3) (d : Dest) : Prop where
  encoding : ∀ w : Word, w.extractLsb' 3 3 = bits ↔ destOf w = d
  writes : ∀ a c u j s, Memory.wf ramWords s.ram = true → RunsClean a d j (alu c s.d (yOf a s)) s →
    ∃ t, exec (mkC a c u d j) s = .next t ∧
      t.a = (if d.toA then alu c s.d (yOf a s) else s.a) ∧
      t.d = (if d.toD then alu c s.d (yOf a s) else s.d) ∧
      t.ram.read (uint s.a) = (if d.toM then alu c s.d (yOf a s) else s.ram.read (uint s.a)) ∧
      (∀ addr, addr ≠ uint s.a → t.ram.read addr = s.ram.read addr) ∧
      (d.toM = false → t.ram = s.ram)
  exception : ∀ c u j s, s.fault = none → 24577 ≤ uint s.a →
    ∃ t, exec (mkC false c u d j) s = .next t ∧
      (if d.toM then t = afterFault .ramWrite (encode (mkC false c u d j)) s
        else ∀ f, t.fault = some f → f.kind = .jumpTarget ∧ Takes j (alu c s.d s.a))

/-- R260 to R267: the three bits that encode one value of the jump field. -/
def JumpBits (bits : BitVec 3) (j : Jump) : Prop := ∀ w : Word, w.extractLsb' 0 3 = bits ↔ jumpOf w = j

/-- R260 to R267: where the condition of a jump value holds, the jump is taken, or raises JumpTarget. -/
structure JumpTaken (j : Jump) (condition : Word → Prop) : Prop where
  taken : ∀ a c u d s, ((a = true ∨ d.toM = true) → uint s.a < 24577) → condition (alu c s.d (yOf a s)) →
    uint s.a < 32768 →
    ∃ t, exec (mkC a c u d j) s = .next t ∧ t.pc.toNat = uint s.a ∧ t.fault = s.fault
  exception : ∀ a c u d s, ((a = true ∨ d.toM = true) → uint s.a < 24577) → condition (alu c s.d (yOf a s)) →
    32768 ≤ uint s.a →
    exec (mkC a c u d j) s = .next (afterFault .jumpTarget (encode (mkC a c u d j)) s)

/-- R260 to R267: where the condition of a jump value does not hold, the next instruction follows, whatever A is. -/
def JumpNotTaken (j : Jump) (condition : Word → Prop) : Prop :=
  ∀ a c u d s, ((a = true ∨ d.toM = true) → uint s.a < 24577) → ¬ condition (alu c s.d (yOf a s)) →
    ∃ t, exec (mkC a c u d j) s = .next t ∧ t.pc.toNat = (s.pc.toNat + 1) % 32768 ∧ t.fault = s.fault

/-- R412: the 16 characters of a Word's line, w[15] first. -/
def hackLine (w : Word) : List Byte := (List.range 16).map fun i => if w.getLsbD (15 - i) then 0x31 else 0x30

/-- R410: a path ends in an extension, exactly. -/
def EndsIn (path ext : String) : Prop := ∃ stem : List Char, path.toList = stem ++ ext.toList

/-- The events of the Keyboard Bridge (R331, R332). -/
def isKeyEvent (e : Event) : Bool :=
  match e with
  | .keyDown k => (keyCode k).isSome
  | .keyUp => true
  | _ => false

/-- R334: the Word the keyboard register holds after a key event. -/
def keyEventWord (e : Event) : Word :=
  match e with
  | .keyDown k => (keyCode k).getD 0
  | _ => 0

end Sys2Proof

open Sys2Proof Sys2Proof.Machine

/-- R92, R93, R96: no bit of an encoding is dropped, for every instruction and every operand value; R60 orders the two bytes. -/
def Obligations.DecodeOfEncodeIsIdentity : Prop :=
  ∀ i : Instr, i.wellFormed = true →
    decodeWord (encode i) = i ∧ ∀ rest : List Byte, decode (bytesOfWord (encode i) ++ rest) = .ok (i, rest)

/-- R96: decode is total and one-to-one on words. -/
def Obligations.EncodeOfDecodeIsIdentity : Prop :=
  ∀ w : Word, (decodeWord w).wellFormed = true ∧ encode (decodeWord w) = w

/-- R91, R96 (spec decision D4): class decode by w[15], total, with no illegal, reserved or trapping word. -/
def Obligations.DecodeTotalByClassBit : Prop :=
  (∀ w : Word, w.toNat ≤ 0x7FFF → w.getLsbD 15 = false ∧ decodeWord w = .atV w) ∧
  (∀ w : Word, 0x8000 ≤ w.toNat → w.getLsbD 15 = true ∧ ∃ a c u d j, decodeWord w = mkC a c u d j) ∧
  (∀ a c u d j, ∃ w : Word, 0x8000 ≤ w.toNat ∧ decodeWord w = mkC a c u d j) ∧
  (∀ (w : Word) (s : State), ∃ t, exec (decodeWord w) s = .next t)

/-- R97: bits w[14:13] are ignored; R301 records the word itself, so the record shows them (DEDUCED, log entry 9). -/
def Obligations.UnusedBitsAreIgnored : Prop :=
  ∀ (w w' : Word) (s : State), w.getLsbD 15 = true → w &&& 0x9FFF#16 = w' &&& 0x9FFF#16 →
    ∃ t t', exec (decodeWord w) s = .next t ∧ exec (decodeWord w') s = .next t' ∧
      (t' = t ∨ ∃ f, t.fault = some f ∧ f.word = w ∧ t' = { t with fault := some { f with word := w' } })

/-- R92, R93: sample words, bit by bit from 95_test_vectors.md. -/
def Obligations.DecodeSampleWords : Prop :=
  decodeWord 0b0000000000000010#16 = .atV 2 ∧
  decodeWord 0b1110000010010000#16 = .a0c000010 3 ⟨false, true, false⟩ ⟨false, false, false⟩ ∧
  decodeWord 0b1111110111101000#16 = .a1c110111 3 ⟨true, false, true⟩ ⟨false, false, false⟩ ∧
  decodeWord 0b1110101010000111#16 = .a0c101010 3 ⟨false, false, false⟩ ⟨true, true, true⟩ ∧
  decodeWord 0b1110001100001000#16 = .a0c001100 3 ⟨false, false, true⟩ ⟨false, false, false⟩ ∧
  decodeWord 0b1110001100000001#16 = .a0c001100 3 ⟨false, false, false⟩ ⟨false, false, true⟩ ∧
  decodeWord 0b1111111010101000#16 = .a1c111010 3 ⟨true, false, true⟩ ⟨false, false, false⟩

/-- R103: "That makes disassembly injective on (a, comp, dest, jump)"; R99 for the literal. -/
def Obligations.DisassemblyIsInjective : Prop :=
  ∀ w w' : Word, disassemble w = disassemble w' → assembledWord (decodeWord w) = assembledWord (decodeWord w')

/-- R104: assembly into words, w[14:13] = 11. -/
def Obligations.AssemblyFormula : Prop :=
  (∀ (a : Bool) (c : Ctrl) (u : BitVec 2) (d : Dest) (j : Jump),
    assembledWord (mkC a c u d j) =
      some (0xE000#16 ||| ((if a then 1#16 else 0#16) <<< 12) ||| ((compBits c).setWidth 16 <<< 6) |||
        ((BitVec.ofBool d.toA ++ BitVec.ofBool d.toD ++ BitVec.ofBool d.toM).setWidth 16 <<< 3) |||
        (BitVec.ofBool j.lt ++ BitVec.ofBool j.eq ++ BitVec.ofBool j.gt).setWidth 16)) ∧
  (∀ v : Word, assembledWord (.atV v) = if uint v ≤ 32767 then some v else none)

/-- R130: `@v`: operands, encoding, effect, no exception, the wrap of PC. -/
def Obligations.AInstructionLoadsItsLiteral : Prop :=
  (∀ v : Word, uint v ≤ 32767 →
    (encode (.atV v)).getLsbD 15 = false ∧ decodeWord (encode (.atV v)) = .atV v ∧
    ∀ s : State, exec (.atV v) s =
      .next { s with a := v, pc := BitVec.ofNat 15 ((s.pc.toNat + 1) % 32768) }) ∧
  (∀ w : Word, w &&& 0x8000#16 = 0 ↔ ∃ v, uint v ≤ 32767 ∧ decodeWord w = .atV v)

/-- R131: the literal path into A is exclusive to A-instructions. -/
def Obligations.LiteralNeverReachesAFromAC : Prop :=
  ∀ (w : Word) (s : State), w.getLsbD 15 = true → s.fault = none →
    ∃ t, exec (decodeWord w) s = .next t ∧
      (w.getLsbD 5 = false → t.a = s.a) ∧
      (w.getLsbD 5 = true → t.fault = none → t.a = alu (ctrlOf w) s.d (yOf (w.getLsbD 12) s))

/-- R180 to R187: the closed form of each comp value, for both operand selects, over every dest, jump and state. -/
def Obligations.CompRows000 : Prop :=
  CompRow false 0x8000#16 "D&A" .a0c000000 (fun x y => x &&& y) ∧
  CompRow true 0x9000#16 "D&M" .a1c000000 (fun x y => x &&& y) ∧
  CompRow false 0x8040#16 "#a0c000001" .a0c000001 (fun x y => ~~~(x &&& y)) ∧
  CompRow true 0x9040#16 "#a1c000001" .a1c000001 (fun x y => ~~~(x &&& y)) ∧
  CompRow false 0x8080#16 "D+A" .a0c000010 (fun x y => x + y) ∧
  CompRow true 0x9080#16 "D+M" .a1c000010 (fun x y => x + y) ∧
  CompRow false 0x80C0#16 "#a0c000011" .a0c000011 (fun x y => -x - y - 1) ∧
  CompRow true 0x90C0#16 "#a1c000011" .a1c000011 (fun x y => -x - y - 1) ∧
  CompRow false 0x8100#16 "#a0c000100" .a0c000100 (fun x y => x &&& ~~~y) ∧
  CompRow true 0x9100#16 "#a1c000100" .a1c000100 (fun x y => x &&& ~~~y) ∧
  CompRow false 0x8140#16 "#a0c000101" .a0c000101 (fun x y => ~~~x ||| y) ∧
  CompRow true 0x9140#16 "#a1c000101" .a1c000101 (fun x y => ~~~x ||| y) ∧
  CompRow false 0x8180#16 "#a0c000110" .a0c000110 (fun x y => x - y - 1) ∧
  CompRow true 0x9180#16 "#a1c000110" .a1c000110 (fun x y => x - y - 1) ∧
  CompRow false 0x81C0#16 "A-D" .a0c000111 (fun x y => y - x) ∧
  CompRow true 0x91C0#16 "M-D" .a1c000111 (fun x y => y - x)

/-- R188 to R195: the closed form of each comp value, for both operand selects, over every dest, jump and state. -/
def Obligations.CompRows001 : Prop :=
  CompRow false 0x8200#16 "#a0c001000" .a0c001000 (fun _ _ => 0x0000) ∧
  CompRow true 0x9200#16 "#a1c001000" .a1c001000 (fun _ _ => 0x0000) ∧
  CompRow false 0x8240#16 "#a0c001001" .a0c001001 (fun _ _ => 0xFFFF) ∧
  CompRow true 0x9240#16 "#a1c001001" .a1c001001 (fun _ _ => 0xFFFF) ∧
  CompRow false 0x8280#16 "#a0c001010" .a0c001010 (fun x _ => x) ∧
  CompRow true 0x9280#16 "#a1c001010" .a1c001010 (fun x _ => x) ∧
  CompRow false 0x82C0#16 "#a0c001011" .a0c001011 (fun x _ => ~~~x) ∧
  CompRow true 0x92C0#16 "#a1c001011" .a1c001011 (fun x _ => ~~~x) ∧
  CompRow false 0x8300#16 "D" .a0c001100 (fun x _ => x) ∧
  CompRow true 0x9300#16 "#a1c001100" .a1c001100 (fun x _ => x) ∧
  CompRow false 0x8340#16 "!D" .a0c001101 (fun x _ => ~~~x) ∧
  CompRow true 0x9340#16 "#a1c001101" .a1c001101 (fun x _ => ~~~x) ∧
  CompRow false 0x8380#16 "D-1" .a0c001110 (fun x _ => x - 1) ∧
  CompRow true 0x9380#16 "#a1c001110" .a1c001110 (fun x _ => x - 1) ∧
  CompRow false 0x83C0#16 "-D" .a0c001111 (fun x _ => -x) ∧
  CompRow true 0x93C0#16 "#a1c001111" .a1c001111 (fun x _ => -x)

/-- R196 to R203: the closed form of each comp value, for both operand selects, over every dest, jump and state. -/
def Obligations.CompRows010 : Prop :=
  CompRow false 0x8400#16 "#a0c010000" .a0c010000 (fun x y => ~~~x &&& y) ∧
  CompRow true 0x9400#16 "#a1c010000" .a1c010000 (fun x y => ~~~x &&& y) ∧
  CompRow false 0x8440#16 "#a0c010001" .a0c010001 (fun x y => x ||| ~~~y) ∧
  CompRow true 0x9440#16 "#a1c010001" .a1c010001 (fun x y => x ||| ~~~y) ∧
  CompRow false 0x8480#16 "#a0c010010" .a0c010010 (fun x y => y - x - 1) ∧
  CompRow true 0x9480#16 "#a1c010010" .a1c010010 (fun x y => y - x - 1) ∧
  CompRow false 0x84C0#16 "D-A" .a0c010011 (fun x y => x - y) ∧
  CompRow true 0x94C0#16 "D-M" .a1c010011 (fun x y => x - y) ∧
  CompRow false 0x8500#16 "#a0c010100" .a0c010100 (fun x y => ~~~(x ||| y)) ∧
  CompRow true 0x9500#16 "#a1c010100" .a1c010100 (fun x y => ~~~(x ||| y)) ∧
  CompRow false 0x8540#16 "D|A" .a0c010101 (fun x y => x ||| y) ∧
  CompRow true 0x9540#16 "D|M" .a1c010101 (fun x y => x ||| y) ∧
  CompRow false 0x8580#16 "#a0c010110" .a0c010110 (fun x y => -x - y - 2) ∧
  CompRow true 0x9580#16 "#a1c010110" .a1c010110 (fun x y => -x - y - 2) ∧
  CompRow false 0x85C0#16 "#a0c010111" .a0c010111 (fun x y => x + y + 1) ∧
  CompRow true 0x95C0#16 "#a1c010111" .a1c010111 (fun x y => x + y + 1)

/-- R204 to R211: the closed form of each comp value, for both operand selects, over every dest, jump and state. -/
def Obligations.CompRows011 : Prop :=
  CompRow false 0x8600#16 "#a0c011000" .a0c011000 (fun _ _ => 0x0000) ∧
  CompRow true 0x9600#16 "#a1c011000" .a1c011000 (fun _ _ => 0x0000) ∧
  CompRow false 0x8640#16 "#a0c011001" .a0c011001 (fun _ _ => 0xFFFF) ∧
  CompRow true 0x9640#16 "#a1c011001" .a1c011001 (fun _ _ => 0xFFFF) ∧
  CompRow false 0x8680#16 "#a0c011010" .a0c011010 (fun x _ => ~~~x) ∧
  CompRow true 0x9680#16 "#a1c011010" .a1c011010 (fun x _ => ~~~x) ∧
  CompRow false 0x86C0#16 "#a0c011011" .a0c011011 (fun x _ => x) ∧
  CompRow true 0x96C0#16 "#a1c011011" .a1c011011 (fun x _ => x) ∧
  CompRow false 0x8700#16 "#a0c011100" .a0c011100 (fun x _ => ~~~x) ∧
  CompRow true 0x9700#16 "#a1c011100" .a1c011100 (fun x _ => ~~~x) ∧
  CompRow false 0x8740#16 "#a0c011101" .a0c011101 (fun x _ => x) ∧
  CompRow true 0x9740#16 "#a1c011101" .a1c011101 (fun x _ => x) ∧
  CompRow false 0x8780#16 "#a0c011110" .a0c011110 (fun x _ => -x - 2) ∧
  CompRow true 0x9780#16 "#a1c011110" .a1c011110 (fun x _ => -x - 2) ∧
  CompRow false 0x87C0#16 "D+1" .a0c011111 (fun x _ => x + 1) ∧
  CompRow true 0x97C0#16 "#a1c011111" .a1c011111 (fun x _ => x + 1)

/-- R212 to R219: the closed form of each comp value, for both operand selects, over every dest, jump and state. -/
def Obligations.CompRows100 : Prop :=
  CompRow false 0x8800#16 "#a0c100000" .a0c100000 (fun _ _ => 0x0000) ∧
  CompRow true 0x9800#16 "#a1c100000" .a1c100000 (fun _ _ => 0x0000) ∧
  CompRow false 0x8840#16 "#a0c100001" .a0c100001 (fun _ _ => 0xFFFF) ∧
  CompRow true 0x9840#16 "#a1c100001" .a1c100001 (fun _ _ => 0xFFFF) ∧
  CompRow false 0x8880#16 "#a0c100010" .a0c100010 (fun _ y => y) ∧
  CompRow true 0x9880#16 "#a1c100010" .a1c100010 (fun _ y => y) ∧
  CompRow false 0x88C0#16 "#a0c100011" .a0c100011 (fun _ y => ~~~y) ∧
  CompRow true 0x98C0#16 "#a1c100011" .a1c100011 (fun _ y => ~~~y) ∧
  CompRow false 0x8900#16 "#a0c100100" .a0c100100 (fun _ _ => 0x0000) ∧
  CompRow true 0x9900#16 "#a1c100100" .a1c100100 (fun _ _ => 0x0000) ∧
  CompRow false 0x8940#16 "#a0c100101" .a0c100101 (fun _ _ => 0xFFFF) ∧
  CompRow true 0x9940#16 "#a1c100101" .a1c100101 (fun _ _ => 0xFFFF) ∧
  CompRow false 0x8980#16 "#a0c100110" .a0c100110 (fun _ y => ~~~y) ∧
  CompRow true 0x9980#16 "#a1c100110" .a1c100110 (fun _ y => ~~~y) ∧
  CompRow false 0x89C0#16 "#a0c100111" .a0c100111 (fun _ y => y) ∧
  CompRow true 0x99C0#16 "#a1c100111" .a1c100111 (fun _ y => y)

/-- R220 to R227: the closed form of each comp value, for both operand selects, over every dest, jump and state. -/
def Obligations.CompRows101 : Prop :=
  CompRow false 0x8A00#16 "#a0c101000" .a0c101000 (fun _ _ => 0x0000) ∧
  CompRow true 0x9A00#16 "#a1c101000" .a1c101000 (fun _ _ => 0x0000) ∧
  CompRow false 0x8A40#16 "#a0c101001" .a0c101001 (fun _ _ => 0xFFFF) ∧
  CompRow true 0x9A40#16 "#a1c101001" .a1c101001 (fun _ _ => 0xFFFF) ∧
  CompRow false 0x8A80#16 "0" .a0c101010 (fun _ _ => 0x0000) ∧
  CompRow true 0x9A80#16 "#a1c101010" .a1c101010 (fun _ _ => 0x0000) ∧
  CompRow false 0x8AC0#16 "#a0c101011" .a0c101011 (fun _ _ => 0xFFFF) ∧
  CompRow true 0x9AC0#16 "#a1c101011" .a1c101011 (fun _ _ => 0xFFFF) ∧
  CompRow false 0x8B00#16 "#a0c101100" .a0c101100 (fun _ _ => 0x0000) ∧
  CompRow true 0x9B00#16 "#a1c101100" .a1c101100 (fun _ _ => 0x0000) ∧
  CompRow false 0x8B40#16 "#a0c101101" .a0c101101 (fun _ _ => 0xFFFF) ∧
  CompRow true 0x9B40#16 "#a1c101101" .a1c101101 (fun _ _ => 0xFFFF) ∧
  CompRow false 0x8B80#16 "#a0c101110" .a0c101110 (fun _ _ => 0xFFFF) ∧
  CompRow true 0x9B80#16 "#a1c101110" .a1c101110 (fun _ _ => 0xFFFF) ∧
  CompRow false 0x8BC0#16 "#a0c101111" .a0c101111 (fun _ _ => 0x0000) ∧
  CompRow true 0x9BC0#16 "#a1c101111" .a1c101111 (fun _ _ => 0x0000)

/-- R228 to R235: the closed form of each comp value, for both operand selects, over every dest, jump and state. -/
def Obligations.CompRows110 : Prop :=
  CompRow false 0x8C00#16 "A" .a0c110000 (fun _ y => y) ∧
  CompRow true 0x9C00#16 "M" .a1c110000 (fun _ y => y) ∧
  CompRow false 0x8C40#16 "!A" .a0c110001 (fun _ y => ~~~y) ∧
  CompRow true 0x9C40#16 "!M" .a1c110001 (fun _ y => ~~~y) ∧
  CompRow false 0x8C80#16 "A-1" .a0c110010 (fun _ y => y - 1) ∧
  CompRow true 0x9C80#16 "M-1" .a1c110010 (fun _ y => y - 1) ∧
  CompRow false 0x8CC0#16 "-A" .a0c110011 (fun _ y => -y) ∧
  CompRow true 0x9CC0#16 "-M" .a1c110011 (fun _ y => -y) ∧
  CompRow false 0x8D00#16 "#a0c110100" .a0c110100 (fun _ y => ~~~y) ∧
  CompRow true 0x9D00#16 "#a1c110100" .a1c110100 (fun _ y => ~~~y) ∧
  CompRow false 0x8D40#16 "#a0c110101" .a0c110101 (fun _ y => y) ∧
  CompRow true 0x9D40#16 "#a1c110101" .a1c110101 (fun _ y => y) ∧
  CompRow false 0x8D80#16 "#a0c110110" .a0c110110 (fun _ y => -y - 2) ∧
  CompRow true 0x9D80#16 "#a1c110110" .a1c110110 (fun _ y => -y - 2) ∧
  CompRow false 0x8DC0#16 "A+1" .a0c110111 (fun _ y => y + 1) ∧
  CompRow true 0x9DC0#16 "M+1" .a1c110111 (fun _ y => y + 1)

/-- R236 to R243: the closed form of each comp value, for both operand selects, over every dest, jump and state. -/
def Obligations.CompRows111 : Prop :=
  CompRow false 0x8E00#16 "#a0c111000" .a0c111000 (fun _ _ => 0x0000) ∧
  CompRow true 0x9E00#16 "#a1c111000" .a1c111000 (fun _ _ => 0x0000) ∧
  CompRow false 0x8E40#16 "#a0c111001" .a0c111001 (fun _ _ => 0xFFFF) ∧
  CompRow true 0x9E40#16 "#a1c111001" .a1c111001 (fun _ _ => 0xFFFF) ∧
  CompRow false 0x8E80#16 "-1" .a0c111010 (fun _ _ => 0xFFFF) ∧
  CompRow true 0x9E80#16 "#a1c111010" .a1c111010 (fun _ _ => 0xFFFF) ∧
  CompRow false 0x8EC0#16 "#a0c111011" .a0c111011 (fun _ _ => 0x0000) ∧
  CompRow true 0x9EC0#16 "#a1c111011" .a1c111011 (fun _ _ => 0x0000) ∧
  CompRow false 0x8F00#16 "#a0c111100" .a0c111100 (fun _ _ => 0xFFFF) ∧
  CompRow true 0x9F00#16 "#a1c111100" .a1c111100 (fun _ _ => 0xFFFF) ∧
  CompRow false 0x8F40#16 "#a0c111101" .a0c111101 (fun _ _ => 0x0000) ∧
  CompRow true 0x9F40#16 "#a1c111101" .a1c111101 (fun _ _ => 0x0000) ∧
  CompRow false 0x8F80#16 "#a0c111110" .a0c111110 (fun _ _ => 0xFFFE) ∧
  CompRow true 0x9F80#16 "#a1c111110" .a1c111110 (fun _ _ => 0xFFFE) ∧
  CompRow false 0x8FC0#16 "1" .a0c111111 (fun _ _ => 0x0001) ∧
  CompRow true 0x9FC0#16 "#a1c111111" .a1c111111 (fun _ _ => 0x0001)

/-- R250 to R257: the dest field. -/
def Obligations.DestFieldRules : Prop :=
  DestRule 0b000#3 ⟨false, false, false⟩ ∧
  DestRule 0b001#3 ⟨false, false, true⟩ ∧
  DestRule 0b010#3 ⟨false, true, false⟩ ∧
  DestRule 0b011#3 ⟨false, true, true⟩ ∧
  DestRule 0b100#3 ⟨true, false, false⟩ ∧
  DestRule 0b101#3 ⟨true, false, true⟩ ∧
  DestRule 0b110#3 ⟨true, true, false⟩ ∧
  DestRule 0b111#3 ⟨true, true, true⟩

/-- R260, R261, R262, R264: the jump field. -/
def Obligations.JumpFieldRules : Prop :=
  (JumpBits 0b000#3 ⟨false, false, false⟩ ∧
    JumpNotTaken ⟨false, false, false⟩ (fun _ => False)) ∧
  (JumpBits 0b001#3 ⟨false, false, true⟩ ∧
    JumpTaken ⟨false, false, true⟩ (fun out => 0 < sint out) ∧
    JumpNotTaken ⟨false, false, true⟩ (fun out => 0 < sint out)) ∧
  (JumpBits 0b010#3 ⟨false, true, false⟩ ∧
    JumpTaken ⟨false, true, false⟩ (fun out => out = 0) ∧
    JumpNotTaken ⟨false, true, false⟩ (fun out => out = 0)) ∧
  (JumpBits 0b100#3 ⟨true, false, false⟩ ∧
    JumpTaken ⟨true, false, false⟩ (fun out => sint out < 0) ∧
    JumpNotTaken ⟨true, false, false⟩ (fun out => sint out < 0))

/-- The combined conditions, which 43_dest_jump.md R263 and R265 to R267 mark "[derived: from 41_c_instruction.md rule R150]". -/
def Obligations.CombinedJumpRules : Prop :=
  (JumpBits 0b011#3 ⟨false, true, true⟩ ∧
    JumpTaken ⟨false, true, true⟩ (fun out => 0 ≤ sint out) ∧
    JumpNotTaken ⟨false, true, true⟩ (fun out => 0 ≤ sint out)) ∧
  (JumpBits 0b101#3 ⟨true, false, true⟩ ∧
    JumpTaken ⟨true, false, true⟩ (fun out => out ≠ 0) ∧
    JumpNotTaken ⟨true, false, true⟩ (fun out => out ≠ 0)) ∧
  (JumpBits 0b110#3 ⟨true, true, false⟩ ∧
    JumpTaken ⟨true, true, false⟩ (fun out => sint out ≤ 0) ∧
    JumpNotTaken ⟨true, true, false⟩ (fun out => sint out ≤ 0)) ∧
  (JumpBits 0b111#3 ⟨true, true, true⟩ ∧
    JumpTaken ⟨true, true, true⟩ (fun _ => True))

/-- R140 (spec decisions D1, D2, D5): the whole step of a C-instruction, in every state. -/
def Obligations.CInstructionStep : Prop :=
  ∀ (a : Bool) (c : Ctrl) (u : BitVec 2) (d : Dest) (j : Jump) (s : State),
    let x1 : Word := if c.zx then 0x0000 else s.d
    let x2 : Word := if c.nx then ~~~x1 else x1
    let y1 : Word := if c.zy then 0x0000 else yOf a s
    let y2 : Word := if c.ny then ~~~y1 else y1
    let o : Word := if c.f then BitVec.ofNat 16 ((uint x2 + uint y2) % 65536) else x2 &&& y2
    let out : Word := if c.no then ~~~o else o
    exec (mkC a c u d j) s =
      if a = true ∧ 24577 ≤ uint s.a then .next (afterFault .ramRead (encode (mkC a c u d j)) s)
      else if d.toM = true ∧ 24577 ≤ uint s.a then .next (afterFault .ramWrite (encode (mkC a c u d j)) s)
      else if Takes j out ∧ 32768 ≤ uint s.a then .next (afterFault .jumpTarget (encode (mkC a c u d j)) s)
      else .next (afterC d j out s)

/-- R156: what a C-instruction writes and what it never reads. -/
def Obligations.CInstructionFrame : Prop :=
  ∀ (a : Bool) (c : Ctrl) (u : BitVec 2) (d : Dest) (j : Jump) (s t : State), s.fault = none →
    exec (mkC a c u d j) s = .next t →
    t.rom = s.rom ∧ t.run = s.run ∧ t.rate = s.rate ∧ t.grace = s.grace ∧ t.schedule = s.schedule ∧
    t.draws = s.draws ∧
    (d.toA = false → t.a = s.a) ∧ (d.toD = false → t.d = s.d) ∧ (d.toM = false → t.ram = s.ram) ∧
    (∀ addr, addr ≠ uint s.a → t.ram.read addr = s.ram.read addr) ∧
    (t.fault ≠ none → t.pc = s.pc ∧ t.a = s.a ∧ t.d = s.d ∧ t.ram = s.ram) ∧
    ∀ (rom' : Memory) (run' : RunState) (rate' : Nat) (fault' : Option AddressFault),
      exec (mkC a c u d j) { s with rom := rom', run := run', rate := rate', fault := fault' } =
        .next { t with rom := rom', run := run', rate := rate', fault := if t.fault = none then fault' else t.fault }

/-- R59: one instruction reads at most one Word of data, at uint(A_pre). -/
def Obligations.InstructionReadsOnlyItsCell : Prop :=
  ∀ (i : Instr) (s s' : State), s.fault = none → s'.fault = none →
    Memory.wf ramWords s.ram = true → Memory.wf ramWords s'.ram = true →
    s'.pc = s.pc → s'.a = s.a → s'.d = s.d → s'.ram.read (uint s.a) = s.ram.read (uint s.a) →
    ∃ t t', exec i s = .next t ∧ exec i s' = .next t' ∧
      t'.pc = t.pc ∧ t'.a = t.a ∧ t'.d = t.d ∧ t'.fault = t.fault ∧
      t'.ram.read (uint s.a) = t.ram.read (uint s.a)

/-- The corner cases of 41_c_instruction.md R155 (a) to (g), which the spec marks as its inference, "[derived: from rule R140 and rule R151]". -/
def Obligations.SameRegisterSourceAndDestination : Prop :=
  (∀ s : State, s.a = 0xFFFF#16 → ∃ t, exec (.a0c110111 3 ⟨true, false, false⟩ ⟨false, false, false⟩) s = .next t ∧
    t.a = 0x0000) ∧
  (∀ s : State, Memory.wf ramWords s.ram = true → uint s.a < 24577 →
    ∃ t, exec (.a1c110111 3 ⟨true, false, true⟩ ⟨false, false, false⟩) s = .next t ∧
      t.ram.read (uint s.a) = s.ram.read (uint s.a) + 1 ∧ t.a = s.ram.read (uint s.a) + 1 ∧
      ∀ addr, addr ≠ uint s.a → t.ram.read addr = s.ram.read addr) ∧
  (∀ (a : Bool) (c : Ctrl) (u : BitVec 2) (d : Dest) (j : Jump) (s : State), d.toA = true →
    RunsClean a d j (alu c s.d (yOf a s)) s → Takes j (alu c s.d (yOf a s)) →
    ∃ t, exec (mkC a c u d j) s = .next t ∧ t.pc.toNat = uint s.a ∧ t.a = alu c s.d (yOf a s)) ∧
  (∀ s : State, Memory.wf ramWords s.ram = true → uint s.a < 24577 →
    ∃ t, exec (.a0c000010 3 ⟨true, true, true⟩ ⟨false, false, false⟩) s = .next t ∧
      t.a = s.d + s.a ∧ t.d = s.d + s.a ∧ t.ram.read (uint s.a) = s.d + s.a) ∧
  (∀ s : State, Memory.wf ramWords s.ram = true → uint s.a < 24577 →
    ∃ t, exec (.a1c110000 3 ⟨false, false, true⟩ ⟨false, false, false⟩) s = .next t ∧
      ∀ addr, t.ram.read addr = s.ram.read addr) ∧
  (∀ s : State, exec (.a0c001100 3 ⟨false, true, false⟩ ⟨false, false, false⟩) s = .next { s with pc := s.pc + 1 }) ∧
  (∀ s : State, uint s.a = s.pc.toNat →
    exec (.a0c101010 3 ⟨false, false, false⟩ ⟨true, true, true⟩) s = .next s)

/-- R301, R302, R303 (spec decisions D1, D2, D5, D6): kinds, priority and precision of AddressFault. -/
def Obligations.AddressFaultKindsAndPriority : Prop :=
  (∀ (a : Bool) (c : Ctrl) (u : BitVec 2) (d : Dest) (j : Jump) (s : State), s.fault = none →
    let w := encode (mkC a c u d j)
    let out := alu c s.d (yOf a s)
    (a = true → 24577 ≤ uint s.a → exec (mkC a c u d j) s = .next (afterFault .ramRead w s)) ∧
    (a = false → d.toM = true → 24577 ≤ uint s.a → exec (mkC a c u d j) s = .next (afterFault .ramWrite w s)) ∧
    (a = false → d.toM = false → Takes j out → 32768 ≤ uint s.a →
      exec (mkC a c u d j) s = .next (afterFault .jumpTarget w s)) ∧
    (¬ ((a = true ∨ d.toM = true) ∧ 24577 ≤ uint s.a) → ¬ (Takes j out ∧ 32768 ≤ uint s.a) →
      ∃ t, exec (mkC a c u d j) s = .next t ∧ t.fault = none)) ∧
  (∀ (v : Word) (s : State), ∃ t, exec (.atV v) s = .next t ∧ t.fault = s.fault)

/-- R300, R301: AddressFault is the only exception and a C-instruction step its only source. -/
def Obligations.FaultComesOnlyFromAnInstruction : Prop :=
  ∀ (s t : State) (f : AddressFault), s.fault = none → step s = .next t → t.fault = some f →
    (s.schedule.head? = none ∨ s.schedule.head? = some .engine ∨ s.schedule.head? = some .step) ∧
    f.pc = s.pc ∧ f.word = s.rom.read s.pc.toNat ∧ f.addr = s.a ∧ AddressFault.sound f = true ∧
    t.rom = s.rom ∧ t.ram = s.ram ∧ t.a = s.a ∧ t.d = s.d ∧ t.pc = s.pc ∧ t.run = s.run

/-- R304, R305: the faulted state is quiescent and the record sticky, over any number of steps. -/
def Obligations.FaultIsStickyAndStopsInstructions : Prop :=
  ∀ (s : State) (f : AddressFault), s.fault = some f →
    applyEvent .engine s = .next s ∧ applyEvent .step s = .next s ∧
    ∀ n, ∃ t, steps n s = .next t ∧ t.fault = some f ∧ ¬ Safe t

/-- R300: "No exceptions should escape `step()`"; an AddressFault is recorded and the step returns (90_conflicts.md C13). -/
def Obligations.EveryStepAnswersNext : Prop :=
  (∀ s : State, ∃ t, step s = .next t) ∧ (∀ (i : Instr) (s : State), ∃ t, exec i s = .next t)

/-- R56: no aliasing; R53, R54: a read returns the last value written. -/
def Obligations.DataAddressesDoNotAlias : Prop :=
  (∀ (m : Memory) (x : Nat) (v : Word), Memory.wf ramWords m = true → x < ramWords →
    (m.write x v).read x = v ∧ Memory.wf ramWords (m.write x v) = true ∧
    (∀ y, y ≠ x → (m.write x v).read y = m.read y) ∧
    (∀ y v', y ≠ x → ((m.write x v).write y v').read x = v)) ∧
  (∀ (s : State) (addr v : Word) (store : Memory) (i : Nat),
    (memWrite s addr v).rom.read i = s.rom.read i ∧ (setRom s store).ram.read i = s.ram.read i)

/-- The canonical form of the model (log entry 1) loses nothing of what R26 and R27 say a memory is. -/
def Obligations.CanonicalMemoriesAreEqualWhenTheyReadAlike : Prop :=
  ∀ (size : Nat) (m m' : Memory), Memory.wf size m = true → Memory.wf size m' = true →
    (∀ addr, m.read addr = m'.read addr) → m = m'

/-- R26: "Only `load()` writes it, and only as a whole"; R58; R69. -/
def Obligations.RomChangesOnlyByLoad : Prop :=
  (∀ s t : State, step s = .next t → t.rom ≠ s.rom →
    ∃ file rest image, s.schedule = .load file :: rest ∧ s.run ≠ .stopped ∧ loadImage file = some image ∧
      t = { s with rom := image, schedule := rest }) ∧
  (∀ (i : Instr) (s t : State), exec i s = .next t → t.rom = s.rom)

/-- R27: the writers of the Memory Bank. -/
def Obligations.RamWriters : Prop :=
  ∀ (s t : State) (addr : Nat), step s = .next t → t.ram.read addr ≠ s.ram.read addr →
    (addr = uint s.a ∧ addr < 24577 ∧ s.fault = none ∧ (s.rom.read s.pc.toNat).getLsbD 15 = true ∧
      (s.rom.read s.pc.toNat).getLsbD 3 = true ∧
      (s.schedule.head? = none ∨ s.schedule.head? = some .engine ∨ s.schedule.head? = some .step)) ∨
    (addr = 24576 ∧ s.run ≠ .stopped ∧ ∃ e rest, s.schedule = e :: rest ∧ isKeyEvent e = true) ∨
    (16384 ≤ addr ∧ addr < 24576 ∧ s.run ≠ .stopped ∧ s.schedule.head? = some .reset ∧
      Config.resetClearsScreen = true)

/-- R342, R345, R57: fetch, decode, execute exactly one instruction. That a lag step which faults has spent its grace is the model's choice (log entry 17). -/
def Obligations.StepRunsTheDecodedInstruction : Prop :=
  ∀ s : State, s.fault = none →
    let i := decodeWord (s.rom.read s.pc.toNat)
    i.wellFormed = true ∧
    (s.schedule = [] → s.run = .running → step s = exec i s) ∧
    (s.schedule = [] → s.run ≠ .running → 0 < s.grace → step s = exec i { s with grace := s.grace - 1 }) ∧
    (∀ rest, s.schedule = .engine :: rest → s.run = .running → step s = exec i { s with schedule := rest }) ∧
    (∀ rest, s.schedule = .engine :: rest → s.run ≠ .running → 0 < s.grace →
      step s = exec i { s with schedule := rest, grace := s.grace - 1 }) ∧
    (∀ rest, s.schedule = .step :: rest → s.run ≠ .stopped → step s = exec i { s with schedule := rest })

/-- R342: "enabled iff fault = none and either run = Running, or run is not Running and grace > 0"; R304: a faulted state stays as it is. That a lag step which faults spends grace is the model's choice (log entry 17). -/
def Obligations.ContinuousStepNeedsToBeEnabled : Prop :=
  ∀ s s' : State,
    ((s.schedule = [] ∧ s' = s) ∨ ∃ rest, s.schedule = .engine :: rest ∧ s' = { s with schedule := rest }) →
    ((s.fault ≠ none ∨ (s.run ≠ .running ∧ s.grace = 0)) → step s = .next s') ∧
    (s.fault = none → (s.run = .running ∨ 0 < s.grace) →
      ∃ t, step s = .next t ∧ t.run = s.run ∧ t.schedule = s'.schedule ∧
        t.grace = (if s.run = .running then s.grace else s.grace - 1) ∧
        exec (decodeWord (s.rom.read s.pc.toNat))
          { s' with grace := if s.run = .running then s.grace else s.grace - 1 } = .next t)

/-- The invariant Invariant of Safety.lean: R26, R27 (the stores), R29 (rate), R33 (grace), R30 and R301 (the fault record). -/
def Obligations.StepKeepsTheInvariant : Prop :=
  ∀ s t : State, Invariant s → step s = .next t → Invariant t

/-- R38: the power-on values meet the invariant that every step keeps. -/
def Obligations.ResetMeetsTheInvariant : Prop :=
  Invariant State.reset

/-- R341, R343: the run-state transitions; the grace is a draw in [0, PAUSE_LAG] (free value, log entry 5). -/
def Obligations.CommandTable : Prop :=
  ∀ (s : State) (rest : List Event),
    (s.schedule = .run :: rest →
      step s = .next (if s.run = .paused then { s with run := .running, grace := 0, schedule := rest }
        else { s with schedule := rest })) ∧
    (s.schedule = .pause :: rest →
      (s.run ≠ .running → step s = .next { s with schedule := rest }) ∧
      (s.run = .running → ∃ g n, g ≤ Config.pauseLag ∧
        step s = .next { s with run := .paused, grace := g, draws := n, schedule := rest } ∧
        ∀ t, step s = .next t → isPaused t = true ∧ isRunning t = false)) ∧
    (s.schedule = .windowClose :: rest →
      (s.run = .stopped → step s = .next { s with schedule := rest }) ∧
      (s.run = .paused → step s = .next { s with run := .stopped, schedule := rest }) ∧
      (s.run = .running → ∃ g n, g ≤ Config.pauseLag ∧
        step s = .next { s with run := .stopped, grace := g, draws := n, schedule := rest })) ∧
    (∀ r, s.schedule = .setRate r :: rest →
      step s = .next (if s.run ≠ .stopped ∧ 1 ≤ r then { s with rate := r, schedule := rest }
        else { s with schedule := rest }))

/-- R345 (spec decisions D26, D27): the host's step(). -/
def Obligations.SingleStepCommand : Prop :=
  ∀ (s : State) (rest : List Event), s.schedule = .step :: rest →
    (s.run ≠ .stopped → s.fault = none →
      ∃ t, step s = .next t ∧ exec (decodeWord (s.rom.read s.pc.toNat)) { s with schedule := rest } = .next t ∧
        t.run = s.run ∧ t.grace = s.grace) ∧
    ((s.run = .stopped ∨ s.fault ≠ none) → step s = .next { s with schedule := rest })

/-- R346: Stopped is terminal. -/
def Obligations.StoppedIsTerminal : Prop :=
  ∀ s : State, s.run = .stopped →
    (∀ e, e ≠ .engine → applyEvent e s = .next s) ∧
    (∀ n, ∃ t, steps n s = .next t ∧ t.run = .stopped ∧ t.grace ≤ s.grace) ∧
    (s.grace = 0 → ∀ n, steps n s = .next { s with schedule := s.schedule.drop n })

/-- R344 with R64: the pause and shutdown lag, in every interleaving. A lag step that faults counts as a continuous step; no clause rests on whether it spends grace (log entry 17). -/
def Obligations.PauseLagIsBounded : Prop :=
  (∀ (n : Nat) (s : State), s.run ≠ .running → (∀ m t, m < n → steps m s = .next t → ¬ Resumes t) →
    ∃ t, steps n s = .next t ∧ t.run ≠ .running ∧ continuousSteps n s ≤ s.grace ∧
      (t.fault = none → continuousSteps n s + t.grace = s.grace) ∧
      (continuousSteps n s = s.grace → continuousEnabled t = false)) ∧
  (∀ (s : State) (rest : List Event), s.run = .running →
    (s.schedule = .pause :: rest ∨ s.schedule = .windowClose :: rest) →
    ∃ t, step s = .next t ∧ t.run ≠ .running ∧ t.grace ≤ Config.pauseLag ∧
      ∀ n, (∀ m u, m < n → steps m t = .next u → ¬ Resumes u) → continuousSteps n t ≤ Config.pauseLag) ∧
  (∀ s : State, s.run ≠ .running → s.schedule = [] →
    ∃ t, steps s.grace s = .next t ∧ t.run = s.run ∧ ∀ n, steps n t = .next t)

/-- R343: "It changes no register, memory or run-state value, and no instruction can observe it." -/
def Obligations.RateIsInvisible : Prop :=
  ∀ (n : Nat) (s t : State) (r : Nat), (∀ r', Event.setRate r' ∉ s.schedule) → steps n s = .next t →
    steps n { s with rate := r } = .next { t with rate := r }

/-- R331, R332 (spec decision D29): the key events; R335 for a key with no entry. -/
def Obligations.KeyEventsWriteTheKeyboardRegister : Prop :=
  ∀ (s : State) (rest : List Event), Memory.wf ramWords s.ram = true → s.run ≠ .stopped →
    (∀ k v, s.schedule = .keyDown k :: rest → keyCode k = some v →
      ∃ m, step s = .next { s with ram := m, schedule := rest } ∧ m.read 24576 = v ∧
        ∀ addr, addr ≠ 24576 → m.read addr = s.ram.read addr) ∧
    (∀ k, s.schedule = .keyDown k :: rest → keyCode k = none → step s = .next { s with schedule := rest }) ∧
    (s.schedule = .keyUp :: rest →
      ∃ m, step s = .next { s with ram := m, schedule := rest } ∧ m.read 24576 = 0 ∧
        ∀ addr, addr ≠ 24576 → m.read addr = s.ram.read addr)

/-- R333 (spec decision D15), and R335 for the keys with no entry. -/
def Obligations.KeyCodeTable : Prop :=
  (∀ c : BitVec 7, 32 ≤ c.toNat → c.toNat ≤ 126 → ∃ v, keyCode (.ascii c) = some v ∧ uint v = c.toNat) ∧
  (∀ c : BitVec 7, (c.toNat < 32 ∨ c.toNat = 127) → keyCode (.ascii c) = none) ∧
  keyCode .enter = some 128 ∧ keyCode .backspace = some 129 ∧ keyCode .left = some 130 ∧
  keyCode .up = some 131 ∧ keyCode .right = some 132 ∧ keyCode .down = some 133 ∧ keyCode .home = some 134 ∧
  keyCode .endKey = some 135 ∧ keyCode .pageUp = some 136 ∧ keyCode .pageDown = some 137 ∧
  keyCode .insert = some 138 ∧ keyCode .delete = some 139 ∧ keyCode .escape = some 140 ∧
  (∀ i : Fin 12, ∃ v, keyCode (.function i) = some v ∧ uint v = 140 + (i.val + 1)) ∧
  keyCode .unmapped = none

/-- R334: "Exactly one key is represented at a time (last event wins); no queueing." -/
def Obligations.LastKeyEventWins : Prop :=
  ∀ (s : State) (ks rest : List Event) (last : Event), Memory.wf ramWords s.ram = true → s.run ≠ .stopped →
    s.schedule = ks ++ rest → (∀ e ∈ ks, isKeyEvent e = true) → ks.getLast? = some last →
    ∃ m, steps ks.length s = .next { s with ram := m, schedule := rest } ∧ m.read 24576 = keyEventWord last ∧
      ∀ addr, addr ≠ 24576 → m.read addr = s.ram.read addr

/-- R330, R338: the keyboard register as a program sees it; 24576 is below 24577 and 32768, so no check fires. -/
def Obligations.ProgramReadsAndWritesTheKeyboardRegister : Prop :=
  ∀ s : State, uint s.a = 24576 → Memory.wf ramWords s.ram = true →
    (∃ t, exec (.a1c110000 3 ⟨false, true, false⟩ ⟨false, false, false⟩) s = .next t ∧
      t.d = s.ram.read 24576 ∧ t.ram = s.ram) ∧
    (∀ (a : Bool) (c : Ctrl) (u : BitVec 2) (d : Dest) (j : Jump), d.toM = true →
      ∃ t, exec (mkC a c u d j) s = .next t ∧ t.ram.read 24576 = alu c s.d (yOf a s) ∧ t.fault = s.fault)

/-- R320, R321: screen geometry and the bit-to-pixel map (90_conflicts.md C2). -/
def Obligations.PixelMap : Prop :=
  (∀ (s : State) (r : Fin 256) (k : Fin 32) (b : Fin 16),
    pixels s ⟨16 * k.val + (15 - b.val), by omega⟩ r =
      (s.ram.read (16384 + 32 * r.val + k.val)).getLsbD b.val) ∧
  (∀ (x : Fin 512), ∃ (k : Fin 32) (b : Fin 16), x.val = 16 * k.val + (15 - b.val)) ∧
  (∀ (r : Fin 256) (k : Fin 32), 16384 ≤ 16384 + 32 * r.val + k.val ∧ 16384 + 32 * r.val + k.val < 24576)

/-- R322: publication after a write inside [16384, 24576). -/
def Obligations.ScreenWriteRepublishesItsSixteenPixels : Prop :=
  (∀ (s : State) (addr v : Word) (x : Fin 512) (y : Fin 256), Memory.wf ramWords s.ram = true →
    uint addr < 24577 →
    pixels (memWrite s addr v) x y =
      if uint addr = 16384 + 32 * y.val + x.val / 16 then v.getLsbD (15 - x.val % 16) else pixels s x y) ∧
  (∀ (s : State) (addr : Nat), 16384 ≤ addr → addr < 24576 →
    (publishedBy s.ram addr).length = 16 ∧
    (∀ p ∈ publishedBy s.ram addr, ∃ (x : Fin 512) (y : Fin 256),
      p = ((x.val, y.val), pixels s x y) ∧ addr = 16384 + 32 * y.val + x.val / 16) ∧
    ∀ (x : Fin 512) (y : Fin 256), addr = 16384 + 32 * y.val + x.val / 16 →
      ((x.val, y.val), pixels s x y) ∈ publishedBy s.ram addr) ∧
  (∀ (m : Memory) (addr : Nat), (addr < 16384 ∨ 24576 ≤ addr) → publishedBy m addr = [])

/-- R411 (spec decision D17): the .bin format. -/
def Obligations.BinImageFormat : Prop :=
  ∀ (path : String) (bytes : List Byte), EndsIn path ".bin" →
    ∃ m, loadImage ⟨path, some bytes⟩ = some m ∧ Memory.wf romWords m = true ∧
      ∀ i, m.read i =
        if i < min 32768 (bytes.length / 2) then
          (bytes.getD (2 * i) 0).setWidth 16 ||| ((bytes.getD (2 * i + 1) 0).setWidth 16 <<< 8)
        else 0x0000

/-- R412 (spec decision D18): the .hack format; R413: capacity, and the empty files. -/
def Obligations.HackImageFormat : Prop :=
  (∀ line rest : List Byte, 0x0A#8 ∉ line →
    (∀ w, (line = hackLine w ∨ line = hackLine w ++ [0x0D#8]) →
      parseHack (line ++ 0x0A#8 :: rest) = w :: parseHack rest ∧ parseHack line = [w]) ∧
    ((∀ w, line ≠ hackLine w ∧ line ≠ hackLine w ++ [0x0D#8]) →
      parseHack (line ++ 0x0A#8 :: rest) = parseHack rest ∧ parseHack line = [])) ∧
  (∀ (path : String) (bytes : List Byte), EndsIn path ".hack" →
    ∃ m, loadImage ⟨path, some bytes⟩ = some m ∧ Memory.wf romWords m = true ∧
      ∀ i, m.read i = if i < 32768 then (parseHack bytes).getD i 0 else 0x0000) ∧
  (∀ path : String, (EndsIn path ".bin" ∨ EndsIn path ".hack") → loadImage ⟨path, some []⟩ = some []) ∧
  (∀ (path : String) (bytes : List Byte) (m : Memory), loadImage ⟨path, some bytes⟩ = some m →
    ∀ i, 32768 ≤ i → m.read i = 0x0000)

/-- R414 (spec decision D19): LoadError. -/
def Obligations.LoadErrorExactlyWhen : Prop :=
  ∀ file : HostFile, loadImage file = none ↔
    (file.bytes = none ∨ (¬ EndsIn file.path ".bin" ∧ ¬ EndsIn file.path ".hack"))

/-- R415, R416, R311: the commit of a load. -/
def Obligations.LoadCommitsTheStoreOnly : Prop :=
  ∀ (s : State) (file : HostFile) (rest : List Event), s.schedule = .load file :: rest →
    (∀ image, s.run ≠ .stopped → loadImage file = some image →
      step s = .next { s with rom := image, schedule := rest } ∧ reply (.load file) s = .loaded) ∧
    (s.run ≠ .stopped → loadImage file = none →
      step s = .next { s with schedule := rest } ∧ reply (.load file) s = .loadError) ∧
    (s.run = .stopped → step s = .next { s with schedule := rest })

/-- R400, R38 (spec decision D7): power-on. -/
def Obligations.PowerOnState : Prop :=
  State.reset.pc = 0 ∧ State.reset.a = 0x0000 ∧ State.reset.d = 0x0000 ∧
  (∀ addr, State.reset.ram.read addr = 0x0000) ∧ (∀ i, State.reset.rom.read i = 0x0000) ∧
  State.reset.run = .paused ∧ State.reset.rate = Config.defaultRate ∧ 1 ≤ State.reset.rate ∧
  State.reset.fault = none ∧ State.reset.grace = 0 ∧ continuousEnabled State.reset = false ∧
  ∀ rest, (∃ t, step { State.reset with schedule := .run :: rest } = .next t ∧ t.pc = 0 ∧ t.run = .running ∧
      t.schedule = rest) ∧
    (∃ t, step { State.reset with schedule := .step :: rest } = .next t ∧ t.a = 0 ∧ t.pc = 1)

/-- R401, R39 (spec decisions D11, D12, D13): the reset() command. R39 says only that A and D are draws the model does not choose; that they are Config.freeWord at two successive counts is the model's choice (log entry 5). The statement holds for every value of the free values and of RESET_CLEARS_SCREEN. -/
def Obligations.ResetCommandEffect : Prop :=
  ∀ (s : State) (rest : List Event), s.schedule = .reset :: rest →
    (s.run = .stopped → step s = .next { s with schedule := rest }) ∧
    (s.run ≠ .stopped → ∃ t, step s = .next t ∧ t.pc = 0 ∧
      t.a = Config.freeWord s.draws ∧ t.d = Config.freeWord (s.draws + 1) ∧
      (∀ addr, t.ram.read addr =
        if Config.resetClearsScreen = true ∧ 16384 ≤ addr ∧ addr < 24576 then 0x0000 else s.ram.read addr) ∧
      (∀ (x : Fin 512) (y : Fin 256), Config.resetClearsScreen = true → pixels t x y = false) ∧
      t.rom = s.rom ∧ t.run = s.run ∧ t.rate = s.rate ∧ t.fault = s.fault ∧ t.grace = s.grace ∧ t.schedule = rest ∧
      (s.run = .running → s.fault = none → continuousEnabled t = true))

/-- R440: parked states; the spec marks what a step does there as its inference, "[derived: from 41_c_instruction.md rules R140, R150 and R154]". -/
def Obligations.ParkedStateIsUnchanged : Prop :=
  ∀ s : State, parked s = true →
    exec (decodeWord (s.rom.read s.pc.toNat)) s = .next s ∧
    (s.run = .running → s.schedule = [] → ∀ n, steps n s = .next s) ∧
    (∀ rest, s.run ≠ .stopped → s.schedule = .step :: rest → step s = .next { s with schedule := rest })

/-- R440: the two-word halt idiom, whose loop the spec marks "[derived: from 40_a_instruction.md rule R130, 42_comp_functions.md rule R222 and 43_dest_jump.md rule R267]"; R441: the end condition of a run. -/
def Obligations.HaltIdiomLoopsForever : Prop :=
  ∀ (h : Nat) (s : State), InHaltLoop h s → s.fault = none → s.run = .running → s.schedule = [] →
    (∀ n, ∃ t, steps n s = .next t ∧ InHaltLoop h t ∧ t.fault = none ∧ t.run = .running ∧ t.schedule = [] ∧
      t.d = s.d ∧ t.ram = s.ram ∧ t.rom = s.rom) ∧
    (s.pc.toNat = h → EndedAt h s ∧ ∃ t, step s = .next t ∧ t.pc.toNat = h + 1 ∧ uint t.a = h) ∧
    (s.pc.toNat = h + 1 → ∃ t, step s = .next t ∧ t.pc.toNat = h ∧ uint t.a = h ∧ EndedAt h t)

/-- R441 (spec decision D28): the end of a run and what refutes a claim; R440: the two ways to name a halt index. The readings of log entry 18 and the store of log entry 19 are the model's. -/
def Obligations.EndOfRunIsItsFirst : Prop :=
  ∀ (h : Nat) (s : State),
    (∀ n n' t t', EndsAfter h n s t → EndsAfter h n' s t' → n = n' ∧ t = t') ∧
    ((s.fault ≠ none ∨ s.run = .stopped) → ∀ n t, ¬ EndsAfter h n s t) ∧
    (∀ k, RunFaults h k s → (∀ n t, ¬ EndsAfter h n s t) ∧
      (keepsDuties k s = true →
        ∀ (premise : State → Prop) (post : Word → Word → Memory → Prop), premise s → ¬ ClaimHolds h premise post)) ∧
    (∀ (premise : State → Prop) (post : Word → Word → Memory → Prop) n t, premise s → ClaimHolds h premise post →
      EndsAfter h n s t → keepsDuties n s = true → post t.a t.d t.ram) ∧
    (InHaltLoop h s → s.fault = none → s.run = .running → s.schedule = [] →
      HaltIndex h s.rom ∧ ∃ t, EndsAfter h (if s.pc.toNat = h then 2 else 1) s t ∧ uint t.a = h ∧ t.d = s.d ∧ t.ram = s.ram) ∧
    (parked s = true → s.pc.toNat = h → s.run = .running → s.schedule = [] →
      HaltIndex h s.rom ∧ EndsAfter h 1 s s)

/-- R355: "A program's correctness claim says nothing of a run in which the host breaks a duty"; D15: "the host duty of rule R355 forbids such events in claims". The claim is that of ClaimHolds, with the readings of log entry 18 and the store of log entry 19, the model's. -/
def Obligations.ClaimsSayNothingPastABrokenDuty : Prop :=
  (∀ e, keepsDuty e = false ↔ ∃ k, e = .keyDown k ∧ keyCode k = none) ∧
  keepsDuty (.keyDown .unmapped) = false ∧
  (∀ c : BitVec 7, keepsDuty (.keyDown (.ascii c)) = false ↔ (c.toNat < 32 ∨ c.toNat = 127)) ∧
  (∀ (h : Nat) (post : Word → Word → Memory → Prop) (s : State) (before after after' : List Event) (e : Event),
    keepsDuty e = false →
    (ClaimHolds h (fun t => t = { s with schedule := before ++ e :: after }) post ↔
      ClaimHolds h (fun t => t = { s with schedule := before ++ e :: after' }) post)) ∧
  (∀ (h : Nat) (premise : State → Prop) (post : Word → Word → Memory → Prop),
    (∀ s, premise s → HaltIndex h s.rom ∧ Safe s ∧ ∃ e rest, s.schedule = e :: rest ∧ keepsDuty e = false) →
    ClaimHolds h premise post)

/-- R347: the queries; R65, R355: the committed-state read. -/
def Obligations.HostReadsChangeNothing : Prop :=
  ∀ (s : State) (rest : List Event),
    (s.schedule = .query :: rest → step s = .next { s with schedule := rest }) ∧
    (s.schedule = .readState :: rest → step s = .next { s with schedule := rest }) ∧
    reply .query s = .answer (decide (s.run = .running)) (decide (s.run = .paused)) ∧
    (s.run = .stopped → reply .query s = .answer false false) ∧
    reply .readState s = .committed s.pc s.a s.d s.ram s.fault ∧
    (s.schedule = .pause :: rest → s.run = .running →
      ∃ t, step s = .next t ∧ reply .query t = .answer false true)
end

