-- ==== Sys2Proof/Laws/Decode.lean ====
section
/-! SUPPORT. The fields of an encoded C-instruction, one lemma per field, and the two views of an instruction. -/

namespace Sys2Proof

variable (a : Bool) (c : Ctrl) (u : BitVec 2) (d : Dest) (j : Jump)

theorem bitAt_getLsbD (n i : Nat) (b : Bool) : (bitAt n b).getLsbD i = (decide (i = n ∧ i < 16) && b) := by
  simp only [bitAt, BitVec.getLsbD_shiftLeft, BitVec.getLsbD_setWidth, BitVec.getLsbD_ofBool]
  by_cases h : i = n
  · subst h
    by_cases h' : i < 16
    all_goals simp [h']
  · by_cases h' : i < n
    · simp [h, h']
    · simp [h, h']
      omega

/-- Every bit of a C-instruction's word. -/
theorem encodeC_getLsbD (i : Nat) :
    (encodeC a c u d j).getLsbD i =
      ((bitAt 15 true).getLsbD i || (u.setWidth 16 <<< 13).getLsbD i || (bitAt 12 a).getLsbD i ||
        (ctrlBits c).getLsbD i || (destBits d).getLsbD i || (jumpBits j).getLsbD i) := by
  simp only [encodeC, BitVec.getLsbD_or]

theorem class_encodeC : (encodeC a c u d j).getLsbD 15 = true := by
  rw [encodeC_getLsbD, bitAt_getLsbD]
  simp

theorem a_encodeC : (encodeC a c u d j).getLsbD 12 = a := by
  simp only [encodeC_getLsbD, ctrlBits, destBits, jumpBits, BitVec.getLsbD_or, bitAt_getLsbD, BitVec.getLsbD_shiftLeft]
  simp

theorem ctrlOf_encodeC : ctrlOf (encodeC a c u d j) = c := by
  simp only [ctrlOf, encodeC_getLsbD, ctrlBits, destBits, jumpBits, BitVec.getLsbD_or, bitAt_getLsbD,
    BitVec.getLsbD_shiftLeft]
  simp

theorem destOf_encodeC : destOf (encodeC a c u d j) = d := by
  simp only [destOf, encodeC_getLsbD, ctrlBits, destBits, jumpBits, BitVec.getLsbD_or, bitAt_getLsbD,
    BitVec.getLsbD_shiftLeft]
  simp

theorem jumpOf_encodeC : jumpOf (encodeC a c u d j) = j := by
  simp only [jumpOf, encodeC_getLsbD, ctrlBits, destBits, jumpBits, BitVec.getLsbD_or, bitAt_getLsbD,
    BitVec.getLsbD_shiftLeft]
  simp

theorem unused_encodeC : (encodeC a c u d j).extractLsb' 13 2 = u := by
  apply BitVec.eq_of_getLsbD_eq
  intro i hi
  have hi' : i = 0 ∨ i = 1 := by omega
  simp only [BitVec.getLsbD_extractLsb', encodeC_getLsbD, ctrlBits, destBits, jumpBits, BitVec.getLsbD_or,
    bitAt_getLsbD, BitVec.getLsbD_shiftLeft, BitVec.getLsbD_setWidth]
  rcases hi' with rfl | rfl <;> simp

/-- The row of `mkC a c` encodes as `encodeC a c` says. -/
theorem encode_mkC : encode (mkC a c u d j) = encodeC a c u d j := by
  obtain ⟨zx, nx, zy, ny, f, no⟩ := c
  cases a <;> cases zx <;> cases nx <;> cases zy <;> cases ny <;> cases f <;> cases no <;> rfl

theorem isC_mkC : (mkC a c u d j).isC = true := by
  obtain ⟨zx, nx, zy, ny, f, no⟩ := c
  cases a <;> cases zx <;> cases nx <;> cases zy <;> cases ny <;> cases f <;> cases no <;> rfl

theorem wellFormed_mkC : (mkC a c u d j).wellFormed = true := by
  obtain ⟨zx, nx, zy, ny, f, no⟩ := c
  cases a <;> cases zx <;> cases nx <;> cases zy <;> cases ny <;> cases f <;> cases no <;> rfl

/-- R91: every instruction is an A-instruction or one of the 128 C rows. -/
theorem atV_or_mkC (i : Instr) : (∃ v, i = .atV v) ∨ ∃ a c u d j, i = mkC a c u d j := by
  cases i
  case atV v => exact .inl ⟨v, rfl⟩
  case a0c000000 u d j => exact .inr ⟨false, ⟨false, false, false, false, false, false⟩, u, d, j, rfl⟩
  case a0c000001 u d j => exact .inr ⟨false, ⟨false, false, false, false, false, true⟩, u, d, j, rfl⟩
  case a0c000010 u d j => exact .inr ⟨false, ⟨false, false, false, false, true, false⟩, u, d, j, rfl⟩
  case a0c000011 u d j => exact .inr ⟨false, ⟨false, false, false, false, true, true⟩, u, d, j, rfl⟩
  case a0c000100 u d j => exact .inr ⟨false, ⟨false, false, false, true, false, false⟩, u, d, j, rfl⟩
  case a0c000101 u d j => exact .inr ⟨false, ⟨false, false, false, true, false, true⟩, u, d, j, rfl⟩
  case a0c000110 u d j => exact .inr ⟨false, ⟨false, false, false, true, true, false⟩, u, d, j, rfl⟩
  case a0c000111 u d j => exact .inr ⟨false, ⟨false, false, false, true, true, true⟩, u, d, j, rfl⟩
  case a0c001000 u d j => exact .inr ⟨false, ⟨false, false, true, false, false, false⟩, u, d, j, rfl⟩
  case a0c001001 u d j => exact .inr ⟨false, ⟨false, false, true, false, false, true⟩, u, d, j, rfl⟩
  case a0c001010 u d j => exact .inr ⟨false, ⟨false, false, true, false, true, false⟩, u, d, j, rfl⟩
  case a0c001011 u d j => exact .inr ⟨false, ⟨false, false, true, false, true, true⟩, u, d, j, rfl⟩
  case a0c001100 u d j => exact .inr ⟨false, ⟨false, false, true, true, false, false⟩, u, d, j, rfl⟩
  case a0c001101 u d j => exact .inr ⟨false, ⟨false, false, true, true, false, true⟩, u, d, j, rfl⟩
  case a0c001110 u d j => exact .inr ⟨false, ⟨false, false, true, true, true, false⟩, u, d, j, rfl⟩
  case a0c001111 u d j => exact .inr ⟨false, ⟨false, false, true, true, true, true⟩, u, d, j, rfl⟩
  case a0c010000 u d j => exact .inr ⟨false, ⟨false, true, false, false, false, false⟩, u, d, j, rfl⟩
  case a0c010001 u d j => exact .inr ⟨false, ⟨false, true, false, false, false, true⟩, u, d, j, rfl⟩
  case a0c010010 u d j => exact .inr ⟨false, ⟨false, true, false, false, true, false⟩, u, d, j, rfl⟩
  case a0c010011 u d j => exact .inr ⟨false, ⟨false, true, false, false, true, true⟩, u, d, j, rfl⟩
  case a0c010100 u d j => exact .inr ⟨false, ⟨false, true, false, true, false, false⟩, u, d, j, rfl⟩
  case a0c010101 u d j => exact .inr ⟨false, ⟨false, true, false, true, false, true⟩, u, d, j, rfl⟩
  case a0c010110 u d j => exact .inr ⟨false, ⟨false, true, false, true, true, false⟩, u, d, j, rfl⟩
  case a0c010111 u d j => exact .inr ⟨false, ⟨false, true, false, true, true, true⟩, u, d, j, rfl⟩
  case a0c011000 u d j => exact .inr ⟨false, ⟨false, true, true, false, false, false⟩, u, d, j, rfl⟩
  case a0c011001 u d j => exact .inr ⟨false, ⟨false, true, true, false, false, true⟩, u, d, j, rfl⟩
  case a0c011010 u d j => exact .inr ⟨false, ⟨false, true, true, false, true, false⟩, u, d, j, rfl⟩
  case a0c011011 u d j => exact .inr ⟨false, ⟨false, true, true, false, true, true⟩, u, d, j, rfl⟩
  case a0c011100 u d j => exact .inr ⟨false, ⟨false, true, true, true, false, false⟩, u, d, j, rfl⟩
  case a0c011101 u d j => exact .inr ⟨false, ⟨false, true, true, true, false, true⟩, u, d, j, rfl⟩
  case a0c011110 u d j => exact .inr ⟨false, ⟨false, true, true, true, true, false⟩, u, d, j, rfl⟩
  case a0c011111 u d j => exact .inr ⟨false, ⟨false, true, true, true, true, true⟩, u, d, j, rfl⟩
  case a0c100000 u d j => exact .inr ⟨false, ⟨true, false, false, false, false, false⟩, u, d, j, rfl⟩
  case a0c100001 u d j => exact .inr ⟨false, ⟨true, false, false, false, false, true⟩, u, d, j, rfl⟩
  case a0c100010 u d j => exact .inr ⟨false, ⟨true, false, false, false, true, false⟩, u, d, j, rfl⟩
  case a0c100011 u d j => exact .inr ⟨false, ⟨true, false, false, false, true, true⟩, u, d, j, rfl⟩
  case a0c100100 u d j => exact .inr ⟨false, ⟨true, false, false, true, false, false⟩, u, d, j, rfl⟩
  case a0c100101 u d j => exact .inr ⟨false, ⟨true, false, false, true, false, true⟩, u, d, j, rfl⟩
  case a0c100110 u d j => exact .inr ⟨false, ⟨true, false, false, true, true, false⟩, u, d, j, rfl⟩
  case a0c100111 u d j => exact .inr ⟨false, ⟨true, false, false, true, true, true⟩, u, d, j, rfl⟩
  case a0c101000 u d j => exact .inr ⟨false, ⟨true, false, true, false, false, false⟩, u, d, j, rfl⟩
  case a0c101001 u d j => exact .inr ⟨false, ⟨true, false, true, false, false, true⟩, u, d, j, rfl⟩
  case a0c101010 u d j => exact .inr ⟨false, ⟨true, false, true, false, true, false⟩, u, d, j, rfl⟩
  case a0c101011 u d j => exact .inr ⟨false, ⟨true, false, true, false, true, true⟩, u, d, j, rfl⟩
  case a0c101100 u d j => exact .inr ⟨false, ⟨true, false, true, true, false, false⟩, u, d, j, rfl⟩
  case a0c101101 u d j => exact .inr ⟨false, ⟨true, false, true, true, false, true⟩, u, d, j, rfl⟩
  case a0c101110 u d j => exact .inr ⟨false, ⟨true, false, true, true, true, false⟩, u, d, j, rfl⟩
  case a0c101111 u d j => exact .inr ⟨false, ⟨true, false, true, true, true, true⟩, u, d, j, rfl⟩
  case a0c110000 u d j => exact .inr ⟨false, ⟨true, true, false, false, false, false⟩, u, d, j, rfl⟩
  case a0c110001 u d j => exact .inr ⟨false, ⟨true, true, false, false, false, true⟩, u, d, j, rfl⟩
  case a0c110010 u d j => exact .inr ⟨false, ⟨true, true, false, false, true, false⟩, u, d, j, rfl⟩
  case a0c110011 u d j => exact .inr ⟨false, ⟨true, true, false, false, true, true⟩, u, d, j, rfl⟩
  case a0c110100 u d j => exact .inr ⟨false, ⟨true, true, false, true, false, false⟩, u, d, j, rfl⟩
  case a0c110101 u d j => exact .inr ⟨false, ⟨true, true, false, true, false, true⟩, u, d, j, rfl⟩
  case a0c110110 u d j => exact .inr ⟨false, ⟨true, true, false, true, true, false⟩, u, d, j, rfl⟩
  case a0c110111 u d j => exact .inr ⟨false, ⟨true, true, false, true, true, true⟩, u, d, j, rfl⟩
  case a0c111000 u d j => exact .inr ⟨false, ⟨true, true, true, false, false, false⟩, u, d, j, rfl⟩
  case a0c111001 u d j => exact .inr ⟨false, ⟨true, true, true, false, false, true⟩, u, d, j, rfl⟩
  case a0c111010 u d j => exact .inr ⟨false, ⟨true, true, true, false, true, false⟩, u, d, j, rfl⟩
  case a0c111011 u d j => exact .inr ⟨false, ⟨true, true, true, false, true, true⟩, u, d, j, rfl⟩
  case a0c111100 u d j => exact .inr ⟨false, ⟨true, true, true, true, false, false⟩, u, d, j, rfl⟩
  case a0c111101 u d j => exact .inr ⟨false, ⟨true, true, true, true, false, true⟩, u, d, j, rfl⟩
  case a0c111110 u d j => exact .inr ⟨false, ⟨true, true, true, true, true, false⟩, u, d, j, rfl⟩
  case a0c111111 u d j => exact .inr ⟨false, ⟨true, true, true, true, true, true⟩, u, d, j, rfl⟩
  case a1c000000 u d j => exact .inr ⟨true, ⟨false, false, false, false, false, false⟩, u, d, j, rfl⟩
  case a1c000001 u d j => exact .inr ⟨true, ⟨false, false, false, false, false, true⟩, u, d, j, rfl⟩
  case a1c000010 u d j => exact .inr ⟨true, ⟨false, false, false, false, true, false⟩, u, d, j, rfl⟩
  case a1c000011 u d j => exact .inr ⟨true, ⟨false, false, false, false, true, true⟩, u, d, j, rfl⟩
  case a1c000100 u d j => exact .inr ⟨true, ⟨false, false, false, true, false, false⟩, u, d, j, rfl⟩
  case a1c000101 u d j => exact .inr ⟨true, ⟨false, false, false, true, false, true⟩, u, d, j, rfl⟩
  case a1c000110 u d j => exact .inr ⟨true, ⟨false, false, false, true, true, false⟩, u, d, j, rfl⟩
  case a1c000111 u d j => exact .inr ⟨true, ⟨false, false, false, true, true, true⟩, u, d, j, rfl⟩
  case a1c001000 u d j => exact .inr ⟨true, ⟨false, false, true, false, false, false⟩, u, d, j, rfl⟩
  case a1c001001 u d j => exact .inr ⟨true, ⟨false, false, true, false, false, true⟩, u, d, j, rfl⟩
  case a1c001010 u d j => exact .inr ⟨true, ⟨false, false, true, false, true, false⟩, u, d, j, rfl⟩
  case a1c001011 u d j => exact .inr ⟨true, ⟨false, false, true, false, true, true⟩, u, d, j, rfl⟩
  case a1c001100 u d j => exact .inr ⟨true, ⟨false, false, true, true, false, false⟩, u, d, j, rfl⟩
  case a1c001101 u d j => exact .inr ⟨true, ⟨false, false, true, true, false, true⟩, u, d, j, rfl⟩
  case a1c001110 u d j => exact .inr ⟨true, ⟨false, false, true, true, true, false⟩, u, d, j, rfl⟩
  case a1c001111 u d j => exact .inr ⟨true, ⟨false, false, true, true, true, true⟩, u, d, j, rfl⟩
  case a1c010000 u d j => exact .inr ⟨true, ⟨false, true, false, false, false, false⟩, u, d, j, rfl⟩
  case a1c010001 u d j => exact .inr ⟨true, ⟨false, true, false, false, false, true⟩, u, d, j, rfl⟩
  case a1c010010 u d j => exact .inr ⟨true, ⟨false, true, false, false, true, false⟩, u, d, j, rfl⟩
  case a1c010011 u d j => exact .inr ⟨true, ⟨false, true, false, false, true, true⟩, u, d, j, rfl⟩
  case a1c010100 u d j => exact .inr ⟨true, ⟨false, true, false, true, false, false⟩, u, d, j, rfl⟩
  case a1c010101 u d j => exact .inr ⟨true, ⟨false, true, false, true, false, true⟩, u, d, j, rfl⟩
  case a1c010110 u d j => exact .inr ⟨true, ⟨false, true, false, true, true, false⟩, u, d, j, rfl⟩
  case a1c010111 u d j => exact .inr ⟨true, ⟨false, true, false, true, true, true⟩, u, d, j, rfl⟩
  case a1c011000 u d j => exact .inr ⟨true, ⟨false, true, true, false, false, false⟩, u, d, j, rfl⟩
  case a1c011001 u d j => exact .inr ⟨true, ⟨false, true, true, false, false, true⟩, u, d, j, rfl⟩
  case a1c011010 u d j => exact .inr ⟨true, ⟨false, true, true, false, true, false⟩, u, d, j, rfl⟩
  case a1c011011 u d j => exact .inr ⟨true, ⟨false, true, true, false, true, true⟩, u, d, j, rfl⟩
  case a1c011100 u d j => exact .inr ⟨true, ⟨false, true, true, true, false, false⟩, u, d, j, rfl⟩
  case a1c011101 u d j => exact .inr ⟨true, ⟨false, true, true, true, false, true⟩, u, d, j, rfl⟩
  case a1c011110 u d j => exact .inr ⟨true, ⟨false, true, true, true, true, false⟩, u, d, j, rfl⟩
  case a1c011111 u d j => exact .inr ⟨true, ⟨false, true, true, true, true, true⟩, u, d, j, rfl⟩
  case a1c100000 u d j => exact .inr ⟨true, ⟨true, false, false, false, false, false⟩, u, d, j, rfl⟩
  case a1c100001 u d j => exact .inr ⟨true, ⟨true, false, false, false, false, true⟩, u, d, j, rfl⟩
  case a1c100010 u d j => exact .inr ⟨true, ⟨true, false, false, false, true, false⟩, u, d, j, rfl⟩
  case a1c100011 u d j => exact .inr ⟨true, ⟨true, false, false, false, true, true⟩, u, d, j, rfl⟩
  case a1c100100 u d j => exact .inr ⟨true, ⟨true, false, false, true, false, false⟩, u, d, j, rfl⟩
  case a1c100101 u d j => exact .inr ⟨true, ⟨true, false, false, true, false, true⟩, u, d, j, rfl⟩
  case a1c100110 u d j => exact .inr ⟨true, ⟨true, false, false, true, true, false⟩, u, d, j, rfl⟩
  case a1c100111 u d j => exact .inr ⟨true, ⟨true, false, false, true, true, true⟩, u, d, j, rfl⟩
  case a1c101000 u d j => exact .inr ⟨true, ⟨true, false, true, false, false, false⟩, u, d, j, rfl⟩
  case a1c101001 u d j => exact .inr ⟨true, ⟨true, false, true, false, false, true⟩, u, d, j, rfl⟩
  case a1c101010 u d j => exact .inr ⟨true, ⟨true, false, true, false, true, false⟩, u, d, j, rfl⟩
  case a1c101011 u d j => exact .inr ⟨true, ⟨true, false, true, false, true, true⟩, u, d, j, rfl⟩
  case a1c101100 u d j => exact .inr ⟨true, ⟨true, false, true, true, false, false⟩, u, d, j, rfl⟩
  case a1c101101 u d j => exact .inr ⟨true, ⟨true, false, true, true, false, true⟩, u, d, j, rfl⟩
  case a1c101110 u d j => exact .inr ⟨true, ⟨true, false, true, true, true, false⟩, u, d, j, rfl⟩
  case a1c101111 u d j => exact .inr ⟨true, ⟨true, false, true, true, true, true⟩, u, d, j, rfl⟩
  case a1c110000 u d j => exact .inr ⟨true, ⟨true, true, false, false, false, false⟩, u, d, j, rfl⟩
  case a1c110001 u d j => exact .inr ⟨true, ⟨true, true, false, false, false, true⟩, u, d, j, rfl⟩
  case a1c110010 u d j => exact .inr ⟨true, ⟨true, true, false, false, true, false⟩, u, d, j, rfl⟩
  case a1c110011 u d j => exact .inr ⟨true, ⟨true, true, false, false, true, true⟩, u, d, j, rfl⟩
  case a1c110100 u d j => exact .inr ⟨true, ⟨true, true, false, true, false, false⟩, u, d, j, rfl⟩
  case a1c110101 u d j => exact .inr ⟨true, ⟨true, true, false, true, false, true⟩, u, d, j, rfl⟩
  case a1c110110 u d j => exact .inr ⟨true, ⟨true, true, false, true, true, false⟩, u, d, j, rfl⟩
  case a1c110111 u d j => exact .inr ⟨true, ⟨true, true, false, true, true, true⟩, u, d, j, rfl⟩
  case a1c111000 u d j => exact .inr ⟨true, ⟨true, true, true, false, false, false⟩, u, d, j, rfl⟩
  case a1c111001 u d j => exact .inr ⟨true, ⟨true, true, true, false, false, true⟩, u, d, j, rfl⟩
  case a1c111010 u d j => exact .inr ⟨true, ⟨true, true, true, false, true, false⟩, u, d, j, rfl⟩
  case a1c111011 u d j => exact .inr ⟨true, ⟨true, true, true, false, true, true⟩, u, d, j, rfl⟩
  case a1c111100 u d j => exact .inr ⟨true, ⟨true, true, true, true, false, false⟩, u, d, j, rfl⟩
  case a1c111101 u d j => exact .inr ⟨true, ⟨true, true, true, true, false, true⟩, u, d, j, rfl⟩
  case a1c111110 u d j => exact .inr ⟨true, ⟨true, true, true, true, true, false⟩, u, d, j, rfl⟩
  case a1c111111 u d j => exact .inr ⟨true, ⟨true, true, true, true, true, true⟩, u, d, j, rfl⟩

theorem decodeWord_of_class {w : Word} (h : w.getLsbD 15 = true) :
    decodeWord w = mkC (w.getLsbD 12) (ctrlOf w) (w.extractLsb' 13 2) (destOf w) (jumpOf w) := by
  simp only [decodeWord, decodeFields, h, if_true]

theorem decodeWord_of_not_class {w : Word} (h : w.getLsbD 15 = false) : decodeWord w = .atV (literalOf w) := by
  simp only [decodeWord, decodeFields, h, Bool.false_eq_true, if_false]

/-- The bits of a wide Word's truncated and widened low part. -/
theorem literalOf_getLsbD (w : Word) (i : Nat) : (literalOf w).getLsbD i = (decide (i < 15) && w.getLsbD i) := by
  simp only [literalOf, BitVec.getLsbD_setWidth, BitVec.getLsbD_extractLsb', Nat.zero_add]
  by_cases h : i < 15 <;> simp [h]
  omega

end Sys2Proof
end

