-- ==== Sys2Proof/Laws/Memory.lean ====
section
/-! SUPPORT. What the memory operations do: reads after writes, and the canonical form they keep. -/

namespace Sys2Proof.Machine

@[simp] theorem Memory.read_nil (addr : Nat) : Memory.read [] addr = 0 := rfl

theorem Memory.read_pair (k : Nat) (v : Word) (m : Memory) (addr : Nat) :
    Memory.read ((k, v) :: m) addr = if k = addr then v else Memory.read m addr := rfl

theorem Memory.write_pair (k : Nat) (x : Word) (m : Memory) (addr : Nat) (v : Word) :
    Memory.write ((k, x) :: m) addr v =
      if addr < k then Memory.cons addr v ((k, x) :: m)
      else if addr = k then Memory.cons addr v m else (k, x) :: Memory.write m addr v := rfl

theorem Memory.wfFrom_pair (size lo k : Nat) (v : Word) (m : Memory) :
    Memory.wfFrom size lo ((k, v) :: m) = true ↔
      lo ≤ k ∧ k < size ∧ v ≠ 0 ∧ Memory.wfFrom size (k + 1) m = true := by
  simp [Memory.wfFrom, and_assoc]

/-- A lower starting address is a weaker demand. -/
theorem Memory.wfFrom_mono {size lo lo' : Nat} {m : Memory} (h : Memory.wfFrom size lo m = true) (hle : lo' ≤ lo) :
    Memory.wfFrom size lo' m = true := by
  cases m with
  | nil => rfl
  | cons c rest =>
    obtain ⟨k, v⟩ := c
    rw [Memory.wfFrom_pair] at h ⊢
    exact ⟨by omega, h.2⟩

/-- Nothing is listed below the starting address of a canonical form. -/
theorem Memory.read_below {size lo addr : Nat} {m : Memory} (h : Memory.wfFrom size lo m = true) (hlt : addr < lo) :
    Memory.read m addr = 0 := by
  induction m generalizing lo with
  | nil => rfl
  | cons c rest ih =>
    obtain ⟨k, v⟩ := c
    rw [Memory.wfFrom_pair] at h
    rw [Memory.read_pair, if_neg (by omega)]
    exact ih h.2.2.2 (by omega)

/-- Nothing is listed at or above the size of a canonical form. -/
theorem Memory.read_beyond {size lo addr : Nat} {m : Memory} (h : Memory.wfFrom size lo m = true) (hge : size ≤ addr) :
    Memory.read m addr = 0 := by
  induction m generalizing lo with
  | nil => rfl
  | cons c rest ih =>
    obtain ⟨k, v⟩ := c
    rw [Memory.wfFrom_pair] at h
    rw [Memory.read_pair, if_neg (by omega)]
    exact ih h.2.2.2

theorem Memory.read_cons_other {k addr : Nat} (v : Word) (m : Memory) (h : k ≠ addr) :
    Memory.read (Memory.cons k v m) addr = Memory.read m addr := by
  unfold Memory.cons
  split
  · rfl
  · rw [Memory.read_pair, if_neg h]

theorem Memory.read_cons_self {k : Nat} (v : Word) (m : Memory) (h : Memory.read m k = 0) :
    Memory.read (Memory.cons k v m) k = v := by
  unfold Memory.cons
  split
  · rename_i hv; rw [hv]; exact h
  · rw [Memory.read_pair, if_pos rfl]

theorem Memory.wfFrom_cons {size lo k : Nat} {v : Word} {m : Memory} (h : Memory.wfFrom size (k + 1) m = true)
    (hlo : lo ≤ k) (hk : k < size) : Memory.wfFrom size lo (Memory.cons k v m) = true := by
  unfold Memory.cons
  split
  · exact Memory.wfFrom_mono h (by omega)
  · rename_i hv
    exact (Memory.wfFrom_pair ..).2 ⟨hlo, hk, hv, h⟩

/-- R56: a write leaves every other address as it was. -/
theorem Memory.read_write_other {addr other : Nat} (m : Memory) (v : Word) (h : addr ≠ other) :
    Memory.read (Memory.write m addr v) other = Memory.read m other := by
  induction m with
  | nil => exact Memory.read_cons_other v [] h
  | cons c rest ih =>
    obtain ⟨k, x⟩ := c
    rw [Memory.write_pair]
    split
    · exact Memory.read_cons_other v _ h
    · split
      · rename_i hk
        rw [Memory.read_cons_other v _ h, Memory.read_pair, if_neg (by omega)]
      · rw [Memory.read_pair, Memory.read_pair, ih]

/-- R54: a read after a write to the same address gives the Word written. -/
theorem Memory.read_write_self {size lo addr : Nat} {m : Memory} (v : Word) (h : Memory.wfFrom size lo m = true) :
    Memory.read (Memory.write m addr v) addr = v := by
  induction m generalizing lo with
  | nil => exact Memory.read_cons_self v [] rfl
  | cons c rest ih =>
    obtain ⟨k, x⟩ := c
    rw [Memory.wfFrom_pair] at h
    rw [Memory.write_pair]
    split
    · rename_i hlt
      refine Memory.read_cons_self v _ ?_
      rw [Memory.read_pair, if_neg (by omega)]
      exact Memory.read_below h.2.2.2 (by omega)
    · split
      · rename_i hk
        exact Memory.read_cons_self v _ (Memory.read_below h.2.2.2 (by omega))
      · rename_i hne
        rw [Memory.read_pair, if_neg (by omega)]
        exact ih h.2.2.2

/-- A write inside the size keeps the canonical form. -/
theorem Memory.wfFrom_write {size lo addr : Nat} {m : Memory} (v : Word) (h : Memory.wfFrom size lo m = true)
    (hlo : lo ≤ addr) (ha : addr < size) : Memory.wfFrom size lo (Memory.write m addr v) = true := by
  induction m generalizing lo with
  | nil => exact Memory.wfFrom_cons rfl hlo ha
  | cons c rest ih =>
    obtain ⟨k, x⟩ := c
    rw [Memory.wfFrom_pair] at h
    rw [Memory.write_pair]
    split
    · rename_i hlt
      exact Memory.wfFrom_cons ((Memory.wfFrom_pair ..).2 ⟨hlt, h.2⟩) hlo ha
    · split
      · rename_i hk
        exact Memory.wfFrom_cons (hk ▸ h.2.2.2) hlo ha
      · exact (Memory.wfFrom_pair ..).2 ⟨h.1, h.2.1, h.2.2.1, ih h.2.2.2 (by omega)⟩

theorem Memory.wf_write {size addr : Nat} {m : Memory} (v : Word) (h : Memory.wf size m = true) (ha : addr < size) :
    Memory.wf size (Memory.write m addr v) = true := Memory.wfFrom_write v h (Nat.zero_le _) ha

theorem Memory.clear_pair (k : Nat) (v : Word) (m : Memory) (lo hi : Nat) :
    Memory.clear ((k, v) :: m) lo hi =
      if lo ≤ k ∧ k < hi then Memory.clear m lo hi else (k, v) :: Memory.clear m lo hi := by
  by_cases h : lo ≤ k ∧ k < hi
  · rw [if_pos h]
    simp [Memory.clear, h.1, h.2]
  · rw [if_neg h]
    unfold Memory.clear
    rw [List.filter_cons_of_pos]
    simp only [Bool.not_eq_true', Bool.and_eq_false_iff, decide_eq_false_iff_not]
    omega

/-- R39: a cleared region reads 0x0000 and the rest is unchanged. -/
theorem Memory.read_clear (m : Memory) (lo hi addr : Nat) :
    Memory.read (Memory.clear m lo hi) addr = if lo ≤ addr ∧ addr < hi then 0 else Memory.read m addr := by
  induction m with
  | nil => simp [Memory.clear]
  | cons c rest ih =>
    obtain ⟨k, v⟩ := c
    rw [Memory.clear_pair, Memory.read_pair]
    split
    · rename_i hin
      rw [ih]
      by_cases hk : k = addr
      · subst hk; simp [hin.1, hin.2]
      · simp [hk]
    · rename_i hout
      rw [Memory.read_pair, ih]
      by_cases hk : k = addr
      · subst hk; simp [hout]
      · simp [hk]

/-- Clearing keeps the canonical form. -/
theorem Memory.wfFrom_clear {size lo : Nat} {m : Memory} (low high : Nat) (h : Memory.wfFrom size lo m = true) :
    Memory.wfFrom size lo (Memory.clear m low high) = true := by
  induction m generalizing lo with
  | nil => exact h
  | cons c rest ih =>
    obtain ⟨k, v⟩ := c
    rw [Memory.wfFrom_pair] at h
    rw [Memory.clear_pair]
    split
    · exact Memory.wfFrom_mono (ih h.2.2.2) (by omega)
    · exact (Memory.wfFrom_pair ..).2 ⟨h.1, h.2.1, h.2.2.1, ih h.2.2.2⟩

theorem Memory.wf_clear {size : Nat} {m : Memory} (low high : Nat) (h : Memory.wf size m = true) :
    Memory.wf size (Memory.clear m low high) = true := Memory.wfFrom_clear low high h

/-- A fresh buffer is in canonical form. -/
theorem Memory.wfFrom_ofWords {size start : Nat} (ws : List Word) (h : start + ws.length ≤ size) :
    Memory.wfFrom size start (Memory.ofWords start ws) = true := by
  induction ws generalizing start with
  | nil => rfl
  | cons w rest ih =>
    simp only [List.length_cons] at h
    exact Memory.wfFrom_cons (ih (by omega)) (Nat.le_refl _) (by omega)

/-- R410: a fresh buffer holds its Words in order, and 0x0000 elsewhere. -/
theorem Memory.read_ofWords (start i : Nat) (ws : List Word) :
    Memory.read (Memory.ofWords start ws) (start + i) = ws.getD i 0 := by
  induction ws generalizing start i with
  | nil => rfl
  | cons w rest ih =>
    have hwf : Memory.wfFrom (start + 1 + rest.length) (start + 1) (Memory.ofWords (start + 1) rest) = true :=
      Memory.wfFrom_ofWords rest (Nat.le_refl _)
    cases i with
    | zero =>
      exact Memory.read_cons_self w _ (Memory.read_below hwf (by omega))
    | succ i =>
      have hne : start ≠ start + (i + 1) := by omega
      have hplus : start + (i + 1) = start + 1 + i := by omega
      rw [Memory.ofWords, Memory.read_cons_other w _ hne, hplus, ih]
      rfl

end Sys2Proof.Machine
end

