-- ==== Sys2Proof/Laws/State.lean ====
section
/-! SUPPORT. One lemma per field per update of State, true by rfl, so that no later proof unfolds a record update. -/

namespace Sys2Proof.Machine

variable (s : State)

@[simp] theorem memWrite_pc (addr v : Word) : (memWrite s addr v).pc = s.pc := rfl
@[simp] theorem memWrite_a (addr v : Word) : (memWrite s addr v).a = s.a := rfl
@[simp] theorem memWrite_d (addr v : Word) : (memWrite s addr v).d = s.d := rfl
@[simp] theorem memWrite_rom (addr v : Word) : (memWrite s addr v).rom = s.rom := rfl
@[simp] theorem memWrite_ram (addr v : Word) : (memWrite s addr v).ram = s.ram.write (uint addr) v := rfl
@[simp] theorem memWrite_run (addr v : Word) : (memWrite s addr v).run = s.run := rfl
@[simp] theorem memWrite_rate (addr v : Word) : (memWrite s addr v).rate = s.rate := rfl
@[simp] theorem memWrite_fault (addr v : Word) : (memWrite s addr v).fault = s.fault := rfl
@[simp] theorem memWrite_grace (addr v : Word) : (memWrite s addr v).grace = s.grace := rfl
@[simp] theorem memWrite_schedule (addr v : Word) : (memWrite s addr v).schedule = s.schedule := rfl
@[simp] theorem memWrite_draws (addr v : Word) : (memWrite s addr v).draws = s.draws := rfl

@[simp] theorem setA_pc (v : Word) : (setA s v).pc = s.pc := rfl
@[simp] theorem setA_a (v : Word) : (setA s v).a = v := rfl
@[simp] theorem setA_d (v : Word) : (setA s v).d = s.d := rfl
@[simp] theorem setA_rom (v : Word) : (setA s v).rom = s.rom := rfl
@[simp] theorem setA_ram (v : Word) : (setA s v).ram = s.ram := rfl
@[simp] theorem setA_run (v : Word) : (setA s v).run = s.run := rfl
@[simp] theorem setA_rate (v : Word) : (setA s v).rate = s.rate := rfl
@[simp] theorem setA_fault (v : Word) : (setA s v).fault = s.fault := rfl
@[simp] theorem setA_grace (v : Word) : (setA s v).grace = s.grace := rfl
@[simp] theorem setA_schedule (v : Word) : (setA s v).schedule = s.schedule := rfl
@[simp] theorem setA_draws (v : Word) : (setA s v).draws = s.draws := rfl

@[simp] theorem setD_pc (v : Word) : (setD s v).pc = s.pc := rfl
@[simp] theorem setD_a (v : Word) : (setD s v).a = s.a := rfl
@[simp] theorem setD_d (v : Word) : (setD s v).d = v := rfl
@[simp] theorem setD_rom (v : Word) : (setD s v).rom = s.rom := rfl
@[simp] theorem setD_ram (v : Word) : (setD s v).ram = s.ram := rfl
@[simp] theorem setD_run (v : Word) : (setD s v).run = s.run := rfl
@[simp] theorem setD_rate (v : Word) : (setD s v).rate = s.rate := rfl
@[simp] theorem setD_fault (v : Word) : (setD s v).fault = s.fault := rfl
@[simp] theorem setD_grace (v : Word) : (setD s v).grace = s.grace := rfl
@[simp] theorem setD_schedule (v : Word) : (setD s v).schedule = s.schedule := rfl
@[simp] theorem setD_draws (v : Word) : (setD s v).draws = s.draws := rfl

@[simp] theorem setPc_pc (t : RomIndex) : (setPc s t).pc = t := rfl
@[simp] theorem setPc_a (t : RomIndex) : (setPc s t).a = s.a := rfl
@[simp] theorem setPc_d (t : RomIndex) : (setPc s t).d = s.d := rfl
@[simp] theorem setPc_rom (t : RomIndex) : (setPc s t).rom = s.rom := rfl
@[simp] theorem setPc_ram (t : RomIndex) : (setPc s t).ram = s.ram := rfl
@[simp] theorem setPc_run (t : RomIndex) : (setPc s t).run = s.run := rfl
@[simp] theorem setPc_rate (t : RomIndex) : (setPc s t).rate = s.rate := rfl
@[simp] theorem setPc_fault (t : RomIndex) : (setPc s t).fault = s.fault := rfl
@[simp] theorem setPc_grace (t : RomIndex) : (setPc s t).grace = s.grace := rfl
@[simp] theorem setPc_schedule (t : RomIndex) : (setPc s t).schedule = s.schedule := rfl
@[simp] theorem setPc_draws (t : RomIndex) : (setPc s t).draws = s.draws := rfl

@[simp] theorem setRom_pc (m : Memory) : (setRom s m).pc = s.pc := rfl
@[simp] theorem setRom_a (m : Memory) : (setRom s m).a = s.a := rfl
@[simp] theorem setRom_d (m : Memory) : (setRom s m).d = s.d := rfl
@[simp] theorem setRom_rom (m : Memory) : (setRom s m).rom = m := rfl
@[simp] theorem setRom_ram (m : Memory) : (setRom s m).ram = s.ram := rfl
@[simp] theorem setRom_run (m : Memory) : (setRom s m).run = s.run := rfl
@[simp] theorem setRom_rate (m : Memory) : (setRom s m).rate = s.rate := rfl
@[simp] theorem setRom_fault (m : Memory) : (setRom s m).fault = s.fault := rfl
@[simp] theorem setRom_grace (m : Memory) : (setRom s m).grace = s.grace := rfl
@[simp] theorem setRom_schedule (m : Memory) : (setRom s m).schedule = s.schedule := rfl
@[simp] theorem setRom_draws (m : Memory) : (setRom s m).draws = s.draws := rfl

@[simp] theorem setRam_pc (m : Memory) : (setRam s m).pc = s.pc := rfl
@[simp] theorem setRam_a (m : Memory) : (setRam s m).a = s.a := rfl
@[simp] theorem setRam_d (m : Memory) : (setRam s m).d = s.d := rfl
@[simp] theorem setRam_rom (m : Memory) : (setRam s m).rom = s.rom := rfl
@[simp] theorem setRam_ram (m : Memory) : (setRam s m).ram = m := rfl
@[simp] theorem setRam_run (m : Memory) : (setRam s m).run = s.run := rfl
@[simp] theorem setRam_rate (m : Memory) : (setRam s m).rate = s.rate := rfl
@[simp] theorem setRam_fault (m : Memory) : (setRam s m).fault = s.fault := rfl
@[simp] theorem setRam_grace (m : Memory) : (setRam s m).grace = s.grace := rfl
@[simp] theorem setRam_schedule (m : Memory) : (setRam s m).schedule = s.schedule := rfl
@[simp] theorem setRam_draws (m : Memory) : (setRam s m).draws = s.draws := rfl

@[simp] theorem setRun_pc (r : RunState) : (setRun s r).pc = s.pc := rfl
@[simp] theorem setRun_a (r : RunState) : (setRun s r).a = s.a := rfl
@[simp] theorem setRun_d (r : RunState) : (setRun s r).d = s.d := rfl
@[simp] theorem setRun_rom (r : RunState) : (setRun s r).rom = s.rom := rfl
@[simp] theorem setRun_ram (r : RunState) : (setRun s r).ram = s.ram := rfl
@[simp] theorem setRun_run (r : RunState) : (setRun s r).run = r := rfl
@[simp] theorem setRun_rate (r : RunState) : (setRun s r).rate = s.rate := rfl
@[simp] theorem setRun_fault (r : RunState) : (setRun s r).fault = s.fault := rfl
@[simp] theorem setRun_grace (r : RunState) : (setRun s r).grace = s.grace := rfl
@[simp] theorem setRun_schedule (r : RunState) : (setRun s r).schedule = s.schedule := rfl
@[simp] theorem setRun_draws (r : RunState) : (setRun s r).draws = s.draws := rfl

@[simp] theorem setRateReg_pc (r : Nat) : (setRateReg s r).pc = s.pc := rfl
@[simp] theorem setRateReg_a (r : Nat) : (setRateReg s r).a = s.a := rfl
@[simp] theorem setRateReg_d (r : Nat) : (setRateReg s r).d = s.d := rfl
@[simp] theorem setRateReg_rom (r : Nat) : (setRateReg s r).rom = s.rom := rfl
@[simp] theorem setRateReg_ram (r : Nat) : (setRateReg s r).ram = s.ram := rfl
@[simp] theorem setRateReg_run (r : Nat) : (setRateReg s r).run = s.run := rfl
@[simp] theorem setRateReg_rate (r : Nat) : (setRateReg s r).rate = r := rfl
@[simp] theorem setRateReg_fault (r : Nat) : (setRateReg s r).fault = s.fault := rfl
@[simp] theorem setRateReg_grace (r : Nat) : (setRateReg s r).grace = s.grace := rfl
@[simp] theorem setRateReg_schedule (r : Nat) : (setRateReg s r).schedule = s.schedule := rfl
@[simp] theorem setRateReg_draws (r : Nat) : (setRateReg s r).draws = s.draws := rfl

@[simp] theorem setFault_pc (f : AddressFault) : (setFault s f).pc = s.pc := rfl
@[simp] theorem setFault_a (f : AddressFault) : (setFault s f).a = s.a := rfl
@[simp] theorem setFault_d (f : AddressFault) : (setFault s f).d = s.d := rfl
@[simp] theorem setFault_rom (f : AddressFault) : (setFault s f).rom = s.rom := rfl
@[simp] theorem setFault_ram (f : AddressFault) : (setFault s f).ram = s.ram := rfl
@[simp] theorem setFault_run (f : AddressFault) : (setFault s f).run = s.run := rfl
@[simp] theorem setFault_rate (f : AddressFault) : (setFault s f).rate = s.rate := rfl
@[simp] theorem setFault_fault (f : AddressFault) : (setFault s f).fault = some f := rfl
@[simp] theorem setFault_grace (f : AddressFault) : (setFault s f).grace = s.grace := rfl
@[simp] theorem setFault_schedule (f : AddressFault) : (setFault s f).schedule = s.schedule := rfl
@[simp] theorem setFault_draws (f : AddressFault) : (setFault s f).draws = s.draws := rfl

@[simp] theorem setGrace_pc (g : Nat) : (setGrace s g).pc = s.pc := rfl
@[simp] theorem setGrace_a (g : Nat) : (setGrace s g).a = s.a := rfl
@[simp] theorem setGrace_d (g : Nat) : (setGrace s g).d = s.d := rfl
@[simp] theorem setGrace_rom (g : Nat) : (setGrace s g).rom = s.rom := rfl
@[simp] theorem setGrace_ram (g : Nat) : (setGrace s g).ram = s.ram := rfl
@[simp] theorem setGrace_run (g : Nat) : (setGrace s g).run = s.run := rfl
@[simp] theorem setGrace_rate (g : Nat) : (setGrace s g).rate = s.rate := rfl
@[simp] theorem setGrace_fault (g : Nat) : (setGrace s g).fault = s.fault := rfl
@[simp] theorem setGrace_grace (g : Nat) : (setGrace s g).grace = g := rfl
@[simp] theorem setGrace_schedule (g : Nat) : (setGrace s g).schedule = s.schedule := rfl
@[simp] theorem setGrace_draws (g : Nat) : (setGrace s g).draws = s.draws := rfl

@[simp] theorem setSchedule_pc (es : List Event) : (setSchedule s es).pc = s.pc := rfl
@[simp] theorem setSchedule_a (es : List Event) : (setSchedule s es).a = s.a := rfl
@[simp] theorem setSchedule_d (es : List Event) : (setSchedule s es).d = s.d := rfl
@[simp] theorem setSchedule_rom (es : List Event) : (setSchedule s es).rom = s.rom := rfl
@[simp] theorem setSchedule_ram (es : List Event) : (setSchedule s es).ram = s.ram := rfl
@[simp] theorem setSchedule_run (es : List Event) : (setSchedule s es).run = s.run := rfl
@[simp] theorem setSchedule_rate (es : List Event) : (setSchedule s es).rate = s.rate := rfl
@[simp] theorem setSchedule_fault (es : List Event) : (setSchedule s es).fault = s.fault := rfl
@[simp] theorem setSchedule_grace (es : List Event) : (setSchedule s es).grace = s.grace := rfl
@[simp] theorem setSchedule_schedule (es : List Event) : (setSchedule s es).schedule = es := rfl
@[simp] theorem setSchedule_draws (es : List Event) : (setSchedule s es).draws = s.draws := rfl

@[simp] theorem addDraws_pc (n : Nat) : (addDraws s n).pc = s.pc := rfl
@[simp] theorem addDraws_a (n : Nat) : (addDraws s n).a = s.a := rfl
@[simp] theorem addDraws_d (n : Nat) : (addDraws s n).d = s.d := rfl
@[simp] theorem addDraws_rom (n : Nat) : (addDraws s n).rom = s.rom := rfl
@[simp] theorem addDraws_ram (n : Nat) : (addDraws s n).ram = s.ram := rfl
@[simp] theorem addDraws_run (n : Nat) : (addDraws s n).run = s.run := rfl
@[simp] theorem addDraws_rate (n : Nat) : (addDraws s n).rate = s.rate := rfl
@[simp] theorem addDraws_fault (n : Nat) : (addDraws s n).fault = s.fault := rfl
@[simp] theorem addDraws_grace (n : Nat) : (addDraws s n).grace = s.grace := rfl
@[simp] theorem addDraws_schedule (n : Nat) : (addDraws s n).schedule = s.schedule := rfl
@[simp] theorem addDraws_draws (n : Nat) : (addDraws s n).draws = s.draws + n := rfl

@[simp] theorem storeDest_pc (d : Dest) (out : Word) : (storeDest d out s).pc = s.pc := rfl
@[simp] theorem storeDest_a (d : Dest) (out : Word) : (storeDest d out s).a = if d.toA then out else s.a := rfl
@[simp] theorem storeDest_d (d : Dest) (out : Word) : (storeDest d out s).d = if d.toD then out else s.d := rfl
@[simp] theorem storeDest_rom (d : Dest) (out : Word) : (storeDest d out s).rom = s.rom := rfl
@[simp] theorem storeDest_ram (d : Dest) (out : Word) : (storeDest d out s).ram = if d.toM then s.ram.write (uint s.a) out else s.ram := rfl
@[simp] theorem storeDest_run (d : Dest) (out : Word) : (storeDest d out s).run = s.run := rfl
@[simp] theorem storeDest_rate (d : Dest) (out : Word) : (storeDest d out s).rate = s.rate := rfl
@[simp] theorem storeDest_fault (d : Dest) (out : Word) : (storeDest d out s).fault = s.fault := rfl
@[simp] theorem storeDest_grace (d : Dest) (out : Word) : (storeDest d out s).grace = s.grace := rfl
@[simp] theorem storeDest_schedule (d : Dest) (out : Word) : (storeDest d out s).schedule = s.schedule := rfl
@[simp] theorem storeDest_draws (d : Dest) (out : Word) : (storeDest d out s).draws = s.draws := rfl

@[simp] theorem placeWord_pc (w : Word) : (placeWord s w).pc = s.pc := rfl
@[simp] theorem placeWord_a (w : Word) : (placeWord s w).a = s.a := rfl
@[simp] theorem placeWord_d (w : Word) : (placeWord s w).d = s.d := rfl
@[simp] theorem placeWord_rom (w : Word) : (placeWord s w).rom = s.rom.write s.pc.toNat w := rfl
@[simp] theorem placeWord_ram (w : Word) : (placeWord s w).ram = s.ram := rfl
@[simp] theorem placeWord_run (w : Word) : (placeWord s w).run = .running := rfl
@[simp] theorem placeWord_rate (w : Word) : (placeWord s w).rate = s.rate := rfl
@[simp] theorem placeWord_fault (w : Word) : (placeWord s w).fault = none := rfl
@[simp] theorem placeWord_grace (w : Word) : (placeWord s w).grace = s.grace := rfl
@[simp] theorem placeWord_schedule (w : Word) : (placeWord s w).schedule = [] := rfl
@[simp] theorem placeWord_draws (w : Word) : (placeWord s w).draws = s.draws := rfl

theorem withFetchWord_eq (nbits w : Nat) :
    s.withFetchWord nbits w = placeWord s (BitVec.ofNat 16 (w % 2 ^ nbits)) := rfl

theorem step_eq : step s = nextEvent s := rfl

end Sys2Proof.Machine
end

