-- ==== Sys2Proof/Laws/Exec.lean ====
section
/-! SUPPORT. What executing one instruction can do, said once: the C rows share one step, and that step has four ends. -/

namespace Sys2Proof.Machine

/-- The meaning of every C row is the one C step. -/
theorem exec_mkC (a : Bool) (c : Ctrl) (u : BitVec 2) (d : Dest) (j : Jump) (s : State) :
    exec (mkC a c u d j) s = cStep a c u d j s := by
  obtain ⟨zx, nx, zy, ny, f, no⟩ := c
  cases a <;> cases zx <;> cases nx <;> cases zy <;> cases ny <;> cases f <;> cases no <;> rfl

/-- R130: the meaning of the A-instruction. -/
theorem exec_atV (v : Word) (s : State) : exec (.atV v) s = .next (setPc (setA s v) (nextIndex s.pc)) := rfl

theorem raiseAddressFault_eq (k : FaultKind) (w : Word) (s : State) :
    raiseAddressFault k w s = .next (setFault s ⟨k, s.pc, w, s.a⟩) := rfl

@[simp] theorem ramValid_iff (addr : Word) : ramValid addr = true ↔ uint addr < 24577 := by
  exact decide_eq_true_iff

@[simp] theorem jumpValid_iff (addr : Word) : jumpValid addr = true ↔ uint addr < 32768 := by
  exact decide_eq_true_iff

/-- R150: the jump condition as a proposition. -/
theorem jumpTaken_iff (j : Jump) (out : Word) :
    jumpTaken j out = true ↔
      (j.lt = true ∧ sint out < 0) ∨ (j.eq = true ∧ out = 0) ∨ (j.gt = true ∧ 0 < sint out) := by
  simp [jumpTaken, or_assoc]

theorem operandY_false (s : State) : operandY false s = some s.a := rfl

theorem operandY_true_of_valid {s : State} (h : ramValid s.a = true) :
    operandY true s = some (s.ram.read (uint s.a)) := by
  simp [operandY, h, memRead]

theorem operandY_true_of_invalid {s : State} (h : ramValid s.a = false) : operandY true s = none := by
  simp [operandY, h]

/-- R140: the four ends of `finishC`'s and `cStep`'s checks, in the order of R302. -/
theorem finishC_cases (w : Word) (d : Dest) (out : Word) (take : Bool) (s : State) :
    (d.toM = true ∧ ramValid s.a = false ∧ finishC w d out take s = raiseAddressFault .ramWrite w s) ∨
    ((d.toM = true → ramValid s.a = true) ∧ take = true ∧ jumpValid s.a = false ∧
      finishC w d out take s = raiseAddressFault .jumpTarget w s) ∨
    ((d.toM = true → ramValid s.a = true) ∧ (take = true → jumpValid s.a = true) ∧
      finishC w d out take s = .next (commit d out take s)) := by
  unfold finishC
  cases d.toM <;> cases ramValid s.a <;> cases take <;> cases jumpValid s.a <;> simp

/-- R140: every end of a C step, with what holds there. -/
theorem cStep_cases (a : Bool) (c : Ctrl) (u : BitVec 2) (d : Dest) (j : Jump) (s : State) :
    (a = true ∧ ramValid s.a = false ∧ cStep a c u d j s = raiseAddressFault .ramRead (encodeC a c u d j) s) ∨
    ∃ y, operandY a s = some y ∧
      cStep a c u d j s =
        finishC (encodeC a c u d j) d (alu c s.d y) (jumpTaken j (alu c s.d y)) s := by
  cases a with
  | false => exact .inr ⟨s.a, rfl, rfl⟩
  | true =>
    cases h : ramValid s.a with
    | false => exact .inl ⟨rfl, rfl, by simp [cStep, operandY, h]⟩
    | true => exact .inr ⟨_, operandY_true_of_valid h, by simp [cStep, operandY, h, memRead, operandX]⟩

/-- R300: executing an instruction always answers a next state. -/
theorem cStep_next (a : Bool) (c : Ctrl) (u : BitVec 2) (d : Dest) (j : Jump) (s : State) :
    (∃ k, cStep a c u d j s = .next (setFault s ⟨k, s.pc, encodeC a c u d j, s.a⟩)) ∨
    ∃ out take, cStep a c u d j s = .next (commit d out take s) := by
  rcases cStep_cases a c u d j s with ⟨_, _, h⟩ | ⟨y, _, h⟩
  · exact .inl ⟨_, h⟩
  · rcases finishC_cases (encodeC a c u d j) d (alu c s.d y) (jumpTaken j (alu c s.d y)) s with
      ⟨_, _, h'⟩ | ⟨_, _, _, h'⟩ | ⟨_, _, h'⟩
    · exact .inl ⟨_, h.trans h'⟩
    · exact .inl ⟨_, h.trans h'⟩
    · exact .inr ⟨_, _, h.trans h'⟩

end Sys2Proof.Machine
end

