-- ==== Sys2Proof/Laws/Host.lean ====
section
/-! SUPPORT. What the loader, the keyboard and the host's commands can do, one lemma for each shared operation. -/

namespace Sys2Proof.Machine

/-- R410: a fresh image is in canonical form. -/
theorem imageOf_wf (ws : List Word) : Memory.wf romWords (imageOf ws) = true :=
  Memory.wfFrom_ofWords _ (by simp [romWords])

/-- R410: the Word at an index of a fresh image. -/
theorem read_imageOf (ws : List Word) (i : Nat) :
    (imageOf ws).read i = if i < romWords then ws.getD i 0 else 0 := by
  have h := Memory.read_ofWords 0 i (ws.take romWords)
  rw [Nat.zero_add] at h
  rw [imageOf, h]
  by_cases hi : i < romWords
  · simp [List.getD_eq_getElem?_getD, hi]
  · simp [List.getD_eq_getElem?_getD, hi]

/-- R414: a load that succeeds gives a canonical Instruction Store. -/
theorem loadImage_wf {file : HostFile} {image : Memory} (h : loadImage file = some image) :
    Memory.wf romWords image = true := by
  unfold loadImage at h
  split at h
  · cases h
  · split at h
    · cases h; exact imageOf_wf _
    · split at h
      · cases h; exact imageOf_wf _
      · cases h

/-- R311, R415, R416: a load changes nothing but the Instruction Store. -/
theorem loadFile_cases (file : HostFile) (s : State) :
    loadFile file s = s ∨
    (s.run ≠ .stopped ∧ ∃ image, loadImage file = some image ∧ loadFile file s = setRom s image) := by
  unfold loadFile
  cases hr : s.run <;> cases hl : loadImage file <;> simp

/-- R331, R332: a key event writes the keyboard register or does nothing. -/
theorem keyDown_cases (k : HostKey) (s : State) :
    (keyDown k s = s ∧ (s.run = .stopped ∨ keyCode k = none)) ∨
    (s.run ≠ .stopped ∧ ∃ v, keyCode k = some v ∧ keyDown k s = writeKeyboard s v) := by
  unfold keyDown
  cases hr : s.run <;> cases hc : keyCode k <;> simp

theorem keyUp_of_not_stopped {s : State} (h : s.run ≠ .stopped) : keyUp s = writeKeyboard s 0 := by
  unfold keyUp
  cases hr : s.run <;> simp_all

theorem writeKeyboard_eq (s : State) (v : Word) : writeKeyboard s v = setRam s (s.ram.write 24576 v) := rfl

/-- R341: the drawn lag is in [0, PAUSE_LAG]. -/
theorem drawnLag_le (n : Nat) : Config.drawnLag n ≤ Config.pauseLag :=
  Nat.le_of_lt_succ (Nat.mod_lt _ (Nat.succ_pos _))

/-- R342: where no continuous step is enabled the engine's turn changes nothing. -/
theorem engineTurn_disabled {s : State} (h : continuousEnabled s = false) : engineTurn s = .next s := by
  simp [engineTurn, h]

theorem engineTurn_enabled {s : State} (h : continuousEnabled s = true) :
    engineTurn s = instructionStep (spendGrace s) := by
  simp [engineTurn, h]

/-- R342: what a continuous step spends. -/
theorem spendGrace_eq (s : State) :
    spendGrace s = setGrace s (if s.run = .running then s.grace else s.grace - 1) := by
  obtain ⟨pc, a, d, rom, ram, run, rate, fault, grace, schedule, draws⟩ := s
  cases run <;> rfl

/-- R64: with nothing scheduled the step is the engine's turn. -/
theorem step_of_nil {s : State} (h : s.schedule = []) : step s = engineTurn s := by
  simp [step_eq, nextEvent, h]

/-- R64: with an event scheduled the step applies it. -/
theorem step_of_cons {s : State} {e : Event} {rest : List Event} (h : s.schedule = e :: rest) :
    step s = applyEvent e (setSchedule s rest) := by
  simp [step_eq, nextEvent, h]

end Sys2Proof.Machine
end

