-- ==== Sys2Proof/Laws/PerInstr.lean ====
section
/-! SUPPORT. Statements about every instruction as syntax, one lemma per constructor. -/

namespace Sys2Proof

/-- R91: the class bit of a well-formed instruction's word is set exactly when it is a C-instruction. -/
def Laws.ClassBit.Statement (i : Instr) : Prop := i.wellFormed = true → (encode i).getLsbD 15 = i.isC

theorem Laws.ClassBit.atV (literal : Word) : Laws.ClassBit.Statement (.atV literal) := by
  intro h
  have hv : literal.toNat ≤ 32767 := by simpa [Instr.wellFormed, literalEncodable] using h
  change literal.getLsbD 15 = false
  rw [BitVec.getLsbD, Nat.testBit_lt_two_pow (by omega)]

theorem Laws.ClassBit.a0c000000 (u : BitVec 2) (d : Dest) (j : Jump) : Laws.ClassBit.Statement (.a0c000000 u d j) :=
  fun _ => class_encodeC _ _ u d j

theorem Laws.ClassBit.a0c000001 (u : BitVec 2) (d : Dest) (j : Jump) : Laws.ClassBit.Statement (.a0c000001 u d j) :=
  fun _ => class_encodeC _ _ u d j

theorem Laws.ClassBit.a0c000010 (u : BitVec 2) (d : Dest) (j : Jump) : Laws.ClassBit.Statement (.a0c000010 u d j) :=
  fun _ => class_encodeC _ _ u d j

theorem Laws.ClassBit.a0c000011 (u : BitVec 2) (d : Dest) (j : Jump) : Laws.ClassBit.Statement (.a0c000011 u d j) :=
  fun _ => class_encodeC _ _ u d j

theorem Laws.ClassBit.a0c000100 (u : BitVec 2) (d : Dest) (j : Jump) : Laws.ClassBit.Statement (.a0c000100 u d j) :=
  fun _ => class_encodeC _ _ u d j

theorem Laws.ClassBit.a0c000101 (u : BitVec 2) (d : Dest) (j : Jump) : Laws.ClassBit.Statement (.a0c000101 u d j) :=
  fun _ => class_encodeC _ _ u d j

theorem Laws.ClassBit.a0c000110 (u : BitVec 2) (d : Dest) (j : Jump) : Laws.ClassBit.Statement (.a0c000110 u d j) :=
  fun _ => class_encodeC _ _ u d j

theorem Laws.ClassBit.a0c000111 (u : BitVec 2) (d : Dest) (j : Jump) : Laws.ClassBit.Statement (.a0c000111 u d j) :=
  fun _ => class_encodeC _ _ u d j

theorem Laws.ClassBit.a0c001000 (u : BitVec 2) (d : Dest) (j : Jump) : Laws.ClassBit.Statement (.a0c001000 u d j) :=
  fun _ => class_encodeC _ _ u d j

theorem Laws.ClassBit.a0c001001 (u : BitVec 2) (d : Dest) (j : Jump) : Laws.ClassBit.Statement (.a0c001001 u d j) :=
  fun _ => class_encodeC _ _ u d j

theorem Laws.ClassBit.a0c001010 (u : BitVec 2) (d : Dest) (j : Jump) : Laws.ClassBit.Statement (.a0c001010 u d j) :=
  fun _ => class_encodeC _ _ u d j

theorem Laws.ClassBit.a0c001011 (u : BitVec 2) (d : Dest) (j : Jump) : Laws.ClassBit.Statement (.a0c001011 u d j) :=
  fun _ => class_encodeC _ _ u d j

theorem Laws.ClassBit.a0c001100 (u : BitVec 2) (d : Dest) (j : Jump) : Laws.ClassBit.Statement (.a0c001100 u d j) :=
  fun _ => class_encodeC _ _ u d j

theorem Laws.ClassBit.a0c001101 (u : BitVec 2) (d : Dest) (j : Jump) : Laws.ClassBit.Statement (.a0c001101 u d j) :=
  fun _ => class_encodeC _ _ u d j

theorem Laws.ClassBit.a0c001110 (u : BitVec 2) (d : Dest) (j : Jump) : Laws.ClassBit.Statement (.a0c001110 u d j) :=
  fun _ => class_encodeC _ _ u d j

theorem Laws.ClassBit.a0c001111 (u : BitVec 2) (d : Dest) (j : Jump) : Laws.ClassBit.Statement (.a0c001111 u d j) :=
  fun _ => class_encodeC _ _ u d j

theorem Laws.ClassBit.a0c010000 (u : BitVec 2) (d : Dest) (j : Jump) : Laws.ClassBit.Statement (.a0c010000 u d j) :=
  fun _ => class_encodeC _ _ u d j

theorem Laws.ClassBit.a0c010001 (u : BitVec 2) (d : Dest) (j : Jump) : Laws.ClassBit.Statement (.a0c010001 u d j) :=
  fun _ => class_encodeC _ _ u d j

theorem Laws.ClassBit.a0c010010 (u : BitVec 2) (d : Dest) (j : Jump) : Laws.ClassBit.Statement (.a0c010010 u d j) :=
  fun _ => class_encodeC _ _ u d j

theorem Laws.ClassBit.a0c010011 (u : BitVec 2) (d : Dest) (j : Jump) : Laws.ClassBit.Statement (.a0c010011 u d j) :=
  fun _ => class_encodeC _ _ u d j

theorem Laws.ClassBit.a0c010100 (u : BitVec 2) (d : Dest) (j : Jump) : Laws.ClassBit.Statement (.a0c010100 u d j) :=
  fun _ => class_encodeC _ _ u d j

theorem Laws.ClassBit.a0c010101 (u : BitVec 2) (d : Dest) (j : Jump) : Laws.ClassBit.Statement (.a0c010101 u d j) :=
  fun _ => class_encodeC _ _ u d j

theorem Laws.ClassBit.a0c010110 (u : BitVec 2) (d : Dest) (j : Jump) : Laws.ClassBit.Statement (.a0c010110 u d j) :=
  fun _ => class_encodeC _ _ u d j

theorem Laws.ClassBit.a0c010111 (u : BitVec 2) (d : Dest) (j : Jump) : Laws.ClassBit.Statement (.a0c010111 u d j) :=
  fun _ => class_encodeC _ _ u d j

theorem Laws.ClassBit.a0c011000 (u : BitVec 2) (d : Dest) (j : Jump) : Laws.ClassBit.Statement (.a0c011000 u d j) :=
  fun _ => class_encodeC _ _ u d j

theorem Laws.ClassBit.a0c011001 (u : BitVec 2) (d : Dest) (j : Jump) : Laws.ClassBit.Statement (.a0c011001 u d j) :=
  fun _ => class_encodeC _ _ u d j

theorem Laws.ClassBit.a0c011010 (u : BitVec 2) (d : Dest) (j : Jump) : Laws.ClassBit.Statement (.a0c011010 u d j) :=
  fun _ => class_encodeC _ _ u d j

theorem Laws.ClassBit.a0c011011 (u : BitVec 2) (d : Dest) (j : Jump) : Laws.ClassBit.Statement (.a0c011011 u d j) :=
  fun _ => class_encodeC _ _ u d j

theorem Laws.ClassBit.a0c011100 (u : BitVec 2) (d : Dest) (j : Jump) : Laws.ClassBit.Statement (.a0c011100 u d j) :=
  fun _ => class_encodeC _ _ u d j

theorem Laws.ClassBit.a0c011101 (u : BitVec 2) (d : Dest) (j : Jump) : Laws.ClassBit.Statement (.a0c011101 u d j) :=
  fun _ => class_encodeC _ _ u d j

theorem Laws.ClassBit.a0c011110 (u : BitVec 2) (d : Dest) (j : Jump) : Laws.ClassBit.Statement (.a0c011110 u d j) :=
  fun _ => class_encodeC _ _ u d j

theorem Laws.ClassBit.a0c011111 (u : BitVec 2) (d : Dest) (j : Jump) : Laws.ClassBit.Statement (.a0c011111 u d j) :=
  fun _ => class_encodeC _ _ u d j

theorem Laws.ClassBit.a0c100000 (u : BitVec 2) (d : Dest) (j : Jump) : Laws.ClassBit.Statement (.a0c100000 u d j) :=
  fun _ => class_encodeC _ _ u d j

theorem Laws.ClassBit.a0c100001 (u : BitVec 2) (d : Dest) (j : Jump) : Laws.ClassBit.Statement (.a0c100001 u d j) :=
  fun _ => class_encodeC _ _ u d j

theorem Laws.ClassBit.a0c100010 (u : BitVec 2) (d : Dest) (j : Jump) : Laws.ClassBit.Statement (.a0c100010 u d j) :=
  fun _ => class_encodeC _ _ u d j

theorem Laws.ClassBit.a0c100011 (u : BitVec 2) (d : Dest) (j : Jump) : Laws.ClassBit.Statement (.a0c100011 u d j) :=
  fun _ => class_encodeC _ _ u d j

theorem Laws.ClassBit.a0c100100 (u : BitVec 2) (d : Dest) (j : Jump) : Laws.ClassBit.Statement (.a0c100100 u d j) :=
  fun _ => class_encodeC _ _ u d j

theorem Laws.ClassBit.a0c100101 (u : BitVec 2) (d : Dest) (j : Jump) : Laws.ClassBit.Statement (.a0c100101 u d j) :=
  fun _ => class_encodeC _ _ u d j

theorem Laws.ClassBit.a0c100110 (u : BitVec 2) (d : Dest) (j : Jump) : Laws.ClassBit.Statement (.a0c100110 u d j) :=
  fun _ => class_encodeC _ _ u d j

theorem Laws.ClassBit.a0c100111 (u : BitVec 2) (d : Dest) (j : Jump) : Laws.ClassBit.Statement (.a0c100111 u d j) :=
  fun _ => class_encodeC _ _ u d j

theorem Laws.ClassBit.a0c101000 (u : BitVec 2) (d : Dest) (j : Jump) : Laws.ClassBit.Statement (.a0c101000 u d j) :=
  fun _ => class_encodeC _ _ u d j

theorem Laws.ClassBit.a0c101001 (u : BitVec 2) (d : Dest) (j : Jump) : Laws.ClassBit.Statement (.a0c101001 u d j) :=
  fun _ => class_encodeC _ _ u d j

theorem Laws.ClassBit.a0c101010 (u : BitVec 2) (d : Dest) (j : Jump) : Laws.ClassBit.Statement (.a0c101010 u d j) :=
  fun _ => class_encodeC _ _ u d j

theorem Laws.ClassBit.a0c101011 (u : BitVec 2) (d : Dest) (j : Jump) : Laws.ClassBit.Statement (.a0c101011 u d j) :=
  fun _ => class_encodeC _ _ u d j

theorem Laws.ClassBit.a0c101100 (u : BitVec 2) (d : Dest) (j : Jump) : Laws.ClassBit.Statement (.a0c101100 u d j) :=
  fun _ => class_encodeC _ _ u d j

theorem Laws.ClassBit.a0c101101 (u : BitVec 2) (d : Dest) (j : Jump) : Laws.ClassBit.Statement (.a0c101101 u d j) :=
  fun _ => class_encodeC _ _ u d j

theorem Laws.ClassBit.a0c101110 (u : BitVec 2) (d : Dest) (j : Jump) : Laws.ClassBit.Statement (.a0c101110 u d j) :=
  fun _ => class_encodeC _ _ u d j

theorem Laws.ClassBit.a0c101111 (u : BitVec 2) (d : Dest) (j : Jump) : Laws.ClassBit.Statement (.a0c101111 u d j) :=
  fun _ => class_encodeC _ _ u d j

theorem Laws.ClassBit.a0c110000 (u : BitVec 2) (d : Dest) (j : Jump) : Laws.ClassBit.Statement (.a0c110000 u d j) :=
  fun _ => class_encodeC _ _ u d j

theorem Laws.ClassBit.a0c110001 (u : BitVec 2) (d : Dest) (j : Jump) : Laws.ClassBit.Statement (.a0c110001 u d j) :=
  fun _ => class_encodeC _ _ u d j

theorem Laws.ClassBit.a0c110010 (u : BitVec 2) (d : Dest) (j : Jump) : Laws.ClassBit.Statement (.a0c110010 u d j) :=
  fun _ => class_encodeC _ _ u d j

theorem Laws.ClassBit.a0c110011 (u : BitVec 2) (d : Dest) (j : Jump) : Laws.ClassBit.Statement (.a0c110011 u d j) :=
  fun _ => class_encodeC _ _ u d j

theorem Laws.ClassBit.a0c110100 (u : BitVec 2) (d : Dest) (j : Jump) : Laws.ClassBit.Statement (.a0c110100 u d j) :=
  fun _ => class_encodeC _ _ u d j

theorem Laws.ClassBit.a0c110101 (u : BitVec 2) (d : Dest) (j : Jump) : Laws.ClassBit.Statement (.a0c110101 u d j) :=
  fun _ => class_encodeC _ _ u d j

theorem Laws.ClassBit.a0c110110 (u : BitVec 2) (d : Dest) (j : Jump) : Laws.ClassBit.Statement (.a0c110110 u d j) :=
  fun _ => class_encodeC _ _ u d j

theorem Laws.ClassBit.a0c110111 (u : BitVec 2) (d : Dest) (j : Jump) : Laws.ClassBit.Statement (.a0c110111 u d j) :=
  fun _ => class_encodeC _ _ u d j

theorem Laws.ClassBit.a0c111000 (u : BitVec 2) (d : Dest) (j : Jump) : Laws.ClassBit.Statement (.a0c111000 u d j) :=
  fun _ => class_encodeC _ _ u d j

theorem Laws.ClassBit.a0c111001 (u : BitVec 2) (d : Dest) (j : Jump) : Laws.ClassBit.Statement (.a0c111001 u d j) :=
  fun _ => class_encodeC _ _ u d j

theorem Laws.ClassBit.a0c111010 (u : BitVec 2) (d : Dest) (j : Jump) : Laws.ClassBit.Statement (.a0c111010 u d j) :=
  fun _ => class_encodeC _ _ u d j

theorem Laws.ClassBit.a0c111011 (u : BitVec 2) (d : Dest) (j : Jump) : Laws.ClassBit.Statement (.a0c111011 u d j) :=
  fun _ => class_encodeC _ _ u d j

theorem Laws.ClassBit.a0c111100 (u : BitVec 2) (d : Dest) (j : Jump) : Laws.ClassBit.Statement (.a0c111100 u d j) :=
  fun _ => class_encodeC _ _ u d j

theorem Laws.ClassBit.a0c111101 (u : BitVec 2) (d : Dest) (j : Jump) : Laws.ClassBit.Statement (.a0c111101 u d j) :=
  fun _ => class_encodeC _ _ u d j

theorem Laws.ClassBit.a0c111110 (u : BitVec 2) (d : Dest) (j : Jump) : Laws.ClassBit.Statement (.a0c111110 u d j) :=
  fun _ => class_encodeC _ _ u d j

theorem Laws.ClassBit.a0c111111 (u : BitVec 2) (d : Dest) (j : Jump) : Laws.ClassBit.Statement (.a0c111111 u d j) :=
  fun _ => class_encodeC _ _ u d j

theorem Laws.ClassBit.a1c000000 (u : BitVec 2) (d : Dest) (j : Jump) : Laws.ClassBit.Statement (.a1c000000 u d j) :=
  fun _ => class_encodeC _ _ u d j

theorem Laws.ClassBit.a1c000001 (u : BitVec 2) (d : Dest) (j : Jump) : Laws.ClassBit.Statement (.a1c000001 u d j) :=
  fun _ => class_encodeC _ _ u d j

theorem Laws.ClassBit.a1c000010 (u : BitVec 2) (d : Dest) (j : Jump) : Laws.ClassBit.Statement (.a1c000010 u d j) :=
  fun _ => class_encodeC _ _ u d j

theorem Laws.ClassBit.a1c000011 (u : BitVec 2) (d : Dest) (j : Jump) : Laws.ClassBit.Statement (.a1c000011 u d j) :=
  fun _ => class_encodeC _ _ u d j

theorem Laws.ClassBit.a1c000100 (u : BitVec 2) (d : Dest) (j : Jump) : Laws.ClassBit.Statement (.a1c000100 u d j) :=
  fun _ => class_encodeC _ _ u d j

theorem Laws.ClassBit.a1c000101 (u : BitVec 2) (d : Dest) (j : Jump) : Laws.ClassBit.Statement (.a1c000101 u d j) :=
  fun _ => class_encodeC _ _ u d j

theorem Laws.ClassBit.a1c000110 (u : BitVec 2) (d : Dest) (j : Jump) : Laws.ClassBit.Statement (.a1c000110 u d j) :=
  fun _ => class_encodeC _ _ u d j

theorem Laws.ClassBit.a1c000111 (u : BitVec 2) (d : Dest) (j : Jump) : Laws.ClassBit.Statement (.a1c000111 u d j) :=
  fun _ => class_encodeC _ _ u d j

theorem Laws.ClassBit.a1c001000 (u : BitVec 2) (d : Dest) (j : Jump) : Laws.ClassBit.Statement (.a1c001000 u d j) :=
  fun _ => class_encodeC _ _ u d j

theorem Laws.ClassBit.a1c001001 (u : BitVec 2) (d : Dest) (j : Jump) : Laws.ClassBit.Statement (.a1c001001 u d j) :=
  fun _ => class_encodeC _ _ u d j

theorem Laws.ClassBit.a1c001010 (u : BitVec 2) (d : Dest) (j : Jump) : Laws.ClassBit.Statement (.a1c001010 u d j) :=
  fun _ => class_encodeC _ _ u d j

theorem Laws.ClassBit.a1c001011 (u : BitVec 2) (d : Dest) (j : Jump) : Laws.ClassBit.Statement (.a1c001011 u d j) :=
  fun _ => class_encodeC _ _ u d j

theorem Laws.ClassBit.a1c001100 (u : BitVec 2) (d : Dest) (j : Jump) : Laws.ClassBit.Statement (.a1c001100 u d j) :=
  fun _ => class_encodeC _ _ u d j

theorem Laws.ClassBit.a1c001101 (u : BitVec 2) (d : Dest) (j : Jump) : Laws.ClassBit.Statement (.a1c001101 u d j) :=
  fun _ => class_encodeC _ _ u d j

theorem Laws.ClassBit.a1c001110 (u : BitVec 2) (d : Dest) (j : Jump) : Laws.ClassBit.Statement (.a1c001110 u d j) :=
  fun _ => class_encodeC _ _ u d j

theorem Laws.ClassBit.a1c001111 (u : BitVec 2) (d : Dest) (j : Jump) : Laws.ClassBit.Statement (.a1c001111 u d j) :=
  fun _ => class_encodeC _ _ u d j

theorem Laws.ClassBit.a1c010000 (u : BitVec 2) (d : Dest) (j : Jump) : Laws.ClassBit.Statement (.a1c010000 u d j) :=
  fun _ => class_encodeC _ _ u d j

theorem Laws.ClassBit.a1c010001 (u : BitVec 2) (d : Dest) (j : Jump) : Laws.ClassBit.Statement (.a1c010001 u d j) :=
  fun _ => class_encodeC _ _ u d j

theorem Laws.ClassBit.a1c010010 (u : BitVec 2) (d : Dest) (j : Jump) : Laws.ClassBit.Statement (.a1c010010 u d j) :=
  fun _ => class_encodeC _ _ u d j

theorem Laws.ClassBit.a1c010011 (u : BitVec 2) (d : Dest) (j : Jump) : Laws.ClassBit.Statement (.a1c010011 u d j) :=
  fun _ => class_encodeC _ _ u d j

theorem Laws.ClassBit.a1c010100 (u : BitVec 2) (d : Dest) (j : Jump) : Laws.ClassBit.Statement (.a1c010100 u d j) :=
  fun _ => class_encodeC _ _ u d j

theorem Laws.ClassBit.a1c010101 (u : BitVec 2) (d : Dest) (j : Jump) : Laws.ClassBit.Statement (.a1c010101 u d j) :=
  fun _ => class_encodeC _ _ u d j

theorem Laws.ClassBit.a1c010110 (u : BitVec 2) (d : Dest) (j : Jump) : Laws.ClassBit.Statement (.a1c010110 u d j) :=
  fun _ => class_encodeC _ _ u d j

theorem Laws.ClassBit.a1c010111 (u : BitVec 2) (d : Dest) (j : Jump) : Laws.ClassBit.Statement (.a1c010111 u d j) :=
  fun _ => class_encodeC _ _ u d j

theorem Laws.ClassBit.a1c011000 (u : BitVec 2) (d : Dest) (j : Jump) : Laws.ClassBit.Statement (.a1c011000 u d j) :=
  fun _ => class_encodeC _ _ u d j

theorem Laws.ClassBit.a1c011001 (u : BitVec 2) (d : Dest) (j : Jump) : Laws.ClassBit.Statement (.a1c011001 u d j) :=
  fun _ => class_encodeC _ _ u d j

theorem Laws.ClassBit.a1c011010 (u : BitVec 2) (d : Dest) (j : Jump) : Laws.ClassBit.Statement (.a1c011010 u d j) :=
  fun _ => class_encodeC _ _ u d j

theorem Laws.ClassBit.a1c011011 (u : BitVec 2) (d : Dest) (j : Jump) : Laws.ClassBit.Statement (.a1c011011 u d j) :=
  fun _ => class_encodeC _ _ u d j

theorem Laws.ClassBit.a1c011100 (u : BitVec 2) (d : Dest) (j : Jump) : Laws.ClassBit.Statement (.a1c011100 u d j) :=
  fun _ => class_encodeC _ _ u d j

theorem Laws.ClassBit.a1c011101 (u : BitVec 2) (d : Dest) (j : Jump) : Laws.ClassBit.Statement (.a1c011101 u d j) :=
  fun _ => class_encodeC _ _ u d j

theorem Laws.ClassBit.a1c011110 (u : BitVec 2) (d : Dest) (j : Jump) : Laws.ClassBit.Statement (.a1c011110 u d j) :=
  fun _ => class_encodeC _ _ u d j

theorem Laws.ClassBit.a1c011111 (u : BitVec 2) (d : Dest) (j : Jump) : Laws.ClassBit.Statement (.a1c011111 u d j) :=
  fun _ => class_encodeC _ _ u d j

theorem Laws.ClassBit.a1c100000 (u : BitVec 2) (d : Dest) (j : Jump) : Laws.ClassBit.Statement (.a1c100000 u d j) :=
  fun _ => class_encodeC _ _ u d j

theorem Laws.ClassBit.a1c100001 (u : BitVec 2) (d : Dest) (j : Jump) : Laws.ClassBit.Statement (.a1c100001 u d j) :=
  fun _ => class_encodeC _ _ u d j

theorem Laws.ClassBit.a1c100010 (u : BitVec 2) (d : Dest) (j : Jump) : Laws.ClassBit.Statement (.a1c100010 u d j) :=
  fun _ => class_encodeC _ _ u d j

theorem Laws.ClassBit.a1c100011 (u : BitVec 2) (d : Dest) (j : Jump) : Laws.ClassBit.Statement (.a1c100011 u d j) :=
  fun _ => class_encodeC _ _ u d j

theorem Laws.ClassBit.a1c100100 (u : BitVec 2) (d : Dest) (j : Jump) : Laws.ClassBit.Statement (.a1c100100 u d j) :=
  fun _ => class_encodeC _ _ u d j

theorem Laws.ClassBit.a1c100101 (u : BitVec 2) (d : Dest) (j : Jump) : Laws.ClassBit.Statement (.a1c100101 u d j) :=
  fun _ => class_encodeC _ _ u d j

theorem Laws.ClassBit.a1c100110 (u : BitVec 2) (d : Dest) (j : Jump) : Laws.ClassBit.Statement (.a1c100110 u d j) :=
  fun _ => class_encodeC _ _ u d j

theorem Laws.ClassBit.a1c100111 (u : BitVec 2) (d : Dest) (j : Jump) : Laws.ClassBit.Statement (.a1c100111 u d j) :=
  fun _ => class_encodeC _ _ u d j

theorem Laws.ClassBit.a1c101000 (u : BitVec 2) (d : Dest) (j : Jump) : Laws.ClassBit.Statement (.a1c101000 u d j) :=
  fun _ => class_encodeC _ _ u d j

theorem Laws.ClassBit.a1c101001 (u : BitVec 2) (d : Dest) (j : Jump) : Laws.ClassBit.Statement (.a1c101001 u d j) :=
  fun _ => class_encodeC _ _ u d j

theorem Laws.ClassBit.a1c101010 (u : BitVec 2) (d : Dest) (j : Jump) : Laws.ClassBit.Statement (.a1c101010 u d j) :=
  fun _ => class_encodeC _ _ u d j

theorem Laws.ClassBit.a1c101011 (u : BitVec 2) (d : Dest) (j : Jump) : Laws.ClassBit.Statement (.a1c101011 u d j) :=
  fun _ => class_encodeC _ _ u d j

theorem Laws.ClassBit.a1c101100 (u : BitVec 2) (d : Dest) (j : Jump) : Laws.ClassBit.Statement (.a1c101100 u d j) :=
  fun _ => class_encodeC _ _ u d j

theorem Laws.ClassBit.a1c101101 (u : BitVec 2) (d : Dest) (j : Jump) : Laws.ClassBit.Statement (.a1c101101 u d j) :=
  fun _ => class_encodeC _ _ u d j

theorem Laws.ClassBit.a1c101110 (u : BitVec 2) (d : Dest) (j : Jump) : Laws.ClassBit.Statement (.a1c101110 u d j) :=
  fun _ => class_encodeC _ _ u d j

theorem Laws.ClassBit.a1c101111 (u : BitVec 2) (d : Dest) (j : Jump) : Laws.ClassBit.Statement (.a1c101111 u d j) :=
  fun _ => class_encodeC _ _ u d j

theorem Laws.ClassBit.a1c110000 (u : BitVec 2) (d : Dest) (j : Jump) : Laws.ClassBit.Statement (.a1c110000 u d j) :=
  fun _ => class_encodeC _ _ u d j

theorem Laws.ClassBit.a1c110001 (u : BitVec 2) (d : Dest) (j : Jump) : Laws.ClassBit.Statement (.a1c110001 u d j) :=
  fun _ => class_encodeC _ _ u d j

theorem Laws.ClassBit.a1c110010 (u : BitVec 2) (d : Dest) (j : Jump) : Laws.ClassBit.Statement (.a1c110010 u d j) :=
  fun _ => class_encodeC _ _ u d j

theorem Laws.ClassBit.a1c110011 (u : BitVec 2) (d : Dest) (j : Jump) : Laws.ClassBit.Statement (.a1c110011 u d j) :=
  fun _ => class_encodeC _ _ u d j

theorem Laws.ClassBit.a1c110100 (u : BitVec 2) (d : Dest) (j : Jump) : Laws.ClassBit.Statement (.a1c110100 u d j) :=
  fun _ => class_encodeC _ _ u d j

theorem Laws.ClassBit.a1c110101 (u : BitVec 2) (d : Dest) (j : Jump) : Laws.ClassBit.Statement (.a1c110101 u d j) :=
  fun _ => class_encodeC _ _ u d j

theorem Laws.ClassBit.a1c110110 (u : BitVec 2) (d : Dest) (j : Jump) : Laws.ClassBit.Statement (.a1c110110 u d j) :=
  fun _ => class_encodeC _ _ u d j

theorem Laws.ClassBit.a1c110111 (u : BitVec 2) (d : Dest) (j : Jump) : Laws.ClassBit.Statement (.a1c110111 u d j) :=
  fun _ => class_encodeC _ _ u d j

theorem Laws.ClassBit.a1c111000 (u : BitVec 2) (d : Dest) (j : Jump) : Laws.ClassBit.Statement (.a1c111000 u d j) :=
  fun _ => class_encodeC _ _ u d j

theorem Laws.ClassBit.a1c111001 (u : BitVec 2) (d : Dest) (j : Jump) : Laws.ClassBit.Statement (.a1c111001 u d j) :=
  fun _ => class_encodeC _ _ u d j

theorem Laws.ClassBit.a1c111010 (u : BitVec 2) (d : Dest) (j : Jump) : Laws.ClassBit.Statement (.a1c111010 u d j) :=
  fun _ => class_encodeC _ _ u d j

theorem Laws.ClassBit.a1c111011 (u : BitVec 2) (d : Dest) (j : Jump) : Laws.ClassBit.Statement (.a1c111011 u d j) :=
  fun _ => class_encodeC _ _ u d j

theorem Laws.ClassBit.a1c111100 (u : BitVec 2) (d : Dest) (j : Jump) : Laws.ClassBit.Statement (.a1c111100 u d j) :=
  fun _ => class_encodeC _ _ u d j

theorem Laws.ClassBit.a1c111101 (u : BitVec 2) (d : Dest) (j : Jump) : Laws.ClassBit.Statement (.a1c111101 u d j) :=
  fun _ => class_encodeC _ _ u d j

theorem Laws.ClassBit.a1c111110 (u : BitVec 2) (d : Dest) (j : Jump) : Laws.ClassBit.Statement (.a1c111110 u d j) :=
  fun _ => class_encodeC _ _ u d j

theorem Laws.ClassBit.a1c111111 (u : BitVec 2) (d : Dest) (j : Jump) : Laws.ClassBit.Statement (.a1c111111 u d j) :=
  fun _ => class_encodeC _ _ u d j

end Sys2Proof
end

