-- ==== Sys2Proof/Laws/Step.lean ====
section
/-! SUPPORT. What one step of the machine can do, said once: an instruction's fixed part, the engine's turn, the host's
single step, every other event, and a run of steps. -/

namespace Sys2Proof.Machine

/-- R156: what no instruction writes. -/
theorem exec_keeps {i : Instr} {s t : State} (h : exec i s = .next t) :
    t.rom = s.rom ∧ t.run = s.run ∧ t.rate = s.rate ∧ t.grace = s.grace ∧ t.schedule = s.schedule ∧
      t.draws = s.draws := by
  rcases atV_or_mkC i with ⟨v, rfl⟩ | ⟨a, c, u, d, j, rfl⟩
  · rw [exec_atV] at h
    cases h
    exact ⟨rfl, rfl, rfl, rfl, rfl, rfl⟩
  · rw [exec_mkC] at h
    rcases cStep_next a c u d j s with ⟨k, h'⟩ | ⟨out, take, h'⟩ <;> rw [h'] at h <;> cases h <;>
      exact ⟨rfl, rfl, rfl, rfl, rfl, rfl⟩

/-- R342: the engine's turn executes ROM[PC], or changes nothing. -/
theorem engineTurn_cases {s t : State} (h : engineTurn s = .next t) :
    (continuousEnabled s = false ∧ t = s) ∨
    (continuousEnabled s = true ∧ exec (decodeWord (fetch s)) (spendGrace s) = .next t) := by
  cases hc : continuousEnabled s
  · rw [engineTurn_disabled hc] at h
    cases h
    exact .inl ⟨rfl, rfl⟩
  · rw [engineTurn_enabled hc, instructionStep, spendGrace_eq] at h
    rw [spendGrace_eq]
    exact .inr ⟨rfl, h⟩

/-- R345: the host's `step()` executes ROM[PC], or changes nothing. -/
theorem stepCommand_cases {s t : State} (h : stepCommand s = .next t) :
    ((s.run = .stopped ∨ s.fault ≠ none) ∧ t = s) ∨
    (s.run ≠ .stopped ∧ s.fault = none ∧ exec (decodeWord (fetch s)) s = .next t) := by
  unfold stepCommand at h
  split at h
  · rename_i hc
    simp only [singleStepEnabled, Bool.and_eq_true, Option.isNone_iff_eq_none, Bool.not_eq_true',
      decide_eq_false_iff_not] at hc
    exact .inr ⟨hc.2, hc.1, h⟩
  · rename_i hc
    cases h
    refine .inl ⟨?_, rfl⟩
    by_cases hr : s.run = .stopped
    · exact .inl hr
    · refine .inr fun hf => hc ?_
      simp [singleStepEnabled, hr, hf]

/-- What `reset()` writes in Running and Paused (R39, R401). -/
theorem resetMachine_eq (s : State) :
    resetMachine s =
      { s with
        pc := 0
        a := Config.freeWord s.draws
        d := Config.freeWord (s.draws + 1)
        ram := if Config.resetClearsScreen then s.ram.clear 16384 24576 else s.ram
        draws := s.draws + 2 } := by
  unfold resetMachine clearScreenIf
  cases Config.resetClearsScreen <;> rfl

/-- R10, R34: what an event that executes no instruction can change: never the fault record; the Instruction Store only by
a load; the Memory Bank only by a key event or a `reset()`. -/
theorem otherEvent_keeps {e : Event} {s t : State} (h1 : e ≠ .engine) (h2 : e ≠ .step)
    (h : applyEvent e s = .next t) :
    t.fault = s.fault ∧ t.schedule = s.schedule ∧
    (t.rom = s.rom ∨ ∃ file image, e = .load file ∧ s.run ≠ .stopped ∧ loadImage file = some image ∧
      t = setRom s image) ∧
    (t.ram = s.ram ∨
      (s.run ≠ .stopped ∧ ∃ v, ((∃ k, e = .keyDown k ∧ keyCode k = some v) ∨ (e = .keyUp ∧ v = 0)) ∧
        t = setRam s (s.ram.write 24576 v)) ∨
      (e = .reset ∧ s.run ≠ .stopped ∧ t = resetMachine s)) ∧
    (t.rate = s.rate ∨ ∃ r, e = .setRate r ∧ 1 ≤ r ∧ t.rate = r) ∧
    (t.grace = s.grace ∨ t.grace ≤ Config.pauseLag) := by
  cases e with
  | engine => exact absurd rfl h1
  | step => exact absurd rfl h2
  | load file =>
    cases h
    rcases loadFile_cases file s with h | ⟨hs, image, hi, h⟩ <;> rw [h]
    · simp
    · exact ⟨rfl, rfl, .inr ⟨file, image, rfl, hs, hi, rfl⟩, .inl rfl, .inl rfl, .inl rfl⟩
  | run => cases h; unfold runCommand; cases hr : s.run <;> simp
  | pause => cases h; unfold pauseCommand; cases hr : s.run <;> simp [drawGrace, drawnLag_le]
  | windowClose => cases h; unfold closeWindow; cases hr : s.run <;> simp [drawGrace, drawnLag_le]
  | setRate r =>
    cases h
    unfold setRateCommand
    by_cases h0 : r = 0
    · cases hr : s.run <;> simp [h0]
    · have hpos : 1 ≤ r := Nat.one_le_iff_ne_zero.2 h0
      cases hr : s.run <;> simp [h0, hpos]
  | reset =>
    cases h
    by_cases hs : s.run = .stopped
    · have : resetCommand s = s := by unfold resetCommand; rw [hs]
      rw [this]
      simp
    · have : resetCommand s = resetMachine s := by
        unfold resetCommand
        cases hr : s.run <;> simp_all
      rw [this]
      refine ⟨?_, ?_, .inl ?_, .inr (.inr ⟨rfl, hs, rfl⟩), .inl ?_, .inl ?_⟩ <;> rw [resetMachine_eq]
  | keyDown k =>
    cases h
    rcases keyDown_cases k s with ⟨h, _⟩ | ⟨hs, v, hv, h⟩ <;> rw [h]
    · simp
    · exact ⟨rfl, rfl, .inl rfl, .inr (.inl ⟨hs, v, .inl ⟨k, rfl, hv⟩, writeKeyboard_eq s v⟩), .inl rfl, .inl rfl⟩
  | keyUp =>
    cases h
    by_cases hs : s.run = .stopped
    · have : keyUp s = s := by unfold keyUp; rw [hs]
      rw [this]
      simp
    · rw [keyUp_of_not_stopped hs]
      exact ⟨rfl, rfl, .inl rfl, .inr (.inl ⟨hs, 0, .inr ⟨rfl, rfl⟩, writeKeyboard_eq s 0⟩), .inl rfl, .inl rfl⟩
  | query => cases h; simp
  | readState => cases h; simp

end Sys2Proof.Machine

namespace Sys2Proof

open Sys2Proof.Machine

theorem steps_zero (s : State) : steps 0 s = .next s := rfl

/-- A run of n + 1 steps is one step and a run of n. -/
theorem steps_succ {n : Nat} {s t : State} (h : step s = .next t) : steps (n + 1) s = steps n t := by
  have hc : core.step s = .next t := h
  simp only [steps, Host.Core.run, hc]
  rfl

/-- R342: with nothing scheduled the next event is a continuous step exactly where one is enabled. -/
theorem takesContinuousStep_nil {s : State} (h : s.schedule = []) : takesContinuousStep s = continuousEnabled s := by
  simp [takesContinuousStep, h]

/-- R342: so it is where the engine's turn is scheduled next. -/
theorem takesContinuousStep_engine {s : State} {rest : List Event} (h : s.schedule = .engine :: rest) :
    takesContinuousStep s = continuousEnabled s := by
  simp [takesContinuousStep, h]

/-- No other event is a continuous step. -/
theorem takesContinuousStep_other {s : State} {e : Event} {rest : List Event} (h : s.schedule = e :: rest)
    (he : e ≠ .engine) : takesContinuousStep s = false := by
  simp [takesContinuousStep, h, he]

theorem continuousSteps_zero (s : State) : continuousSteps 0 s = 0 := rfl

theorem continuousSteps_succ {n : Nat} {s t : State} (h : step s = .next t) :
    continuousSteps (n + 1) s = (if takesContinuousStep s then 1 else 0) + continuousSteps n t := by
  simp [continuousSteps, h]

theorem keepsDuties_zero (s : State) : keepsDuties 0 s = true := by
  simp [keepsDuties]

/-- R355: with nothing scheduled the host breaks no duty. -/
theorem keepsDuties_nil {s : State} (h : s.schedule = []) (n : Nat) : keepsDuties n s = true := by
  simp [keepsDuties, h]

theorem keepsDuties_cons {s : State} {e : Event} {rest : List Event} (h : s.schedule = e :: rest) (n : Nat) :
    keepsDuties (n + 1) s = (keepsDuty e && keepsDuties n (setSchedule s rest)) := by
  simp [keepsDuties, h]

/-- R355: a duty that is broken stays broken in every longer run. -/
theorem keepsDuties_mono {s : State} {m n : Nat} (h : m ≤ n) (hk : keepsDuties n s = true) : keepsDuties m s = true := by
  simp only [keepsDuties, List.all_eq_true] at hk ⊢
  exact fun e he => hk e ((List.take_subset_take_left s.schedule h) he)

/-- R441: "A fault is never an end" (92_eei_decisions.md D28). -/
theorem EndedAt.safe {h : Nat} {s : State} (he : EndedAt h s) : Safe s := he.2.1

end Sys2Proof
end

