-- ==== Sys2Proof/Tests/Slice0.lean ====
section
/-! SUPPORT. Tests. Expected results are the vectors of spec/95_test_vectors.md and words written out from 30_encoding.md;
then a witness for every statement that has hypotheses. -/

namespace Sys2Proof.Tests

open Sys2Proof Sys2Proof.Machine

/-- A Running state with these registers and stores; the other fields hold fixed small values. -/
def start (pc : RomIndex) (a d : Word) (ram rom : Memory) : State :=
  { pc := pc, a := a, d := d, rom := rom, ram := ram, run := .running, rate := 1, fault := none, grace := 0,
    schedule := [], draws := 0 }

/-- The state in which the engine's next turn executes `w`. -/
def at1 (pc : RomIndex) (a d : Word) (ram : Memory) (w : Word) : State := (start pc a d ram []).withFetchWord 16 w.toNat

/-- The same with events scheduled. -/
def host (s : State) (es : List Event) : State := { s with schedule := es }

/-- The next state, if there is one. -/
def after (r : Result) : Option State :=
  match r with
  | .next t => some t
  | _ => none

/-- PC, A, D, RAM and the fault record. -/
structure Seen where
  pc : RomIndex
  a : Word
  d : Word
  ram : Memory
  fault : Option AddressFault
  deriving DecidableEq, Repr

/-- What one step leaves. -/
def seen (s : State) : Option Seen := (after (step s)).map fun t => ⟨t.pc, t.a, t.d, t.ram, t.fault⟩

/-- The keyboard cell after the key events of a Paused machine. -/
def kbd (es : List Event) : Option Word :=
  (after (steps es.length { start 0 0 0 [] [] with run := .paused, schedule := es })).map keyboardRegister

/-- The lit pixels of some pixels. -/
def lit (ram : Memory) (ps : List (Fin 512 × Fin 256)) : List (Fin 512 × Fin 256) := ps.filter fun p => pixel ram p.1 p.2

/-- The characters of a text as bytes. -/
def text (s : String) : List Byte := s.toList.map fun c => BitVec.ofNat 8 c.toNat

/-- R104: `@n` with n > 32767 has no encoding. -/
theorem test_wellFormed_refuses_large_literal :
    Instr.wellFormed (.atV 0x8000) = false ∧ Instr.wellFormed (.atV 0xFFFF) = false ∧
    Instr.wellFormed (.atV 0x7FFF) = true ∧ Instr.wellFormed (.atV 0) = true := by decide

/-- R104. -/
theorem test_assembler_refuses_large_literal :
    assembledWord (.atV 0x8000) = none ∧ assembledWord (.atV 0x7FFF) = some 0x7FFF := by decide

/-- R92: the A-instruction. -/
theorem test_decode_A :
    decodeWord 0b0000000000000010#16 = .atV 2 ∧ decodeWord 0b0111111111111111#16 = .atV 0x7FFF ∧
    decodeWord 0b0000000000000000#16 = .atV 0 := by decide

/-- R93, R98: class, w[14:13], a, comp, dest, jump, written bit by bit (a0c000000 to a0c000111). -/
theorem test_decode_C_0 :
    decodeWord 0b1000000000001010#16 = .a0c000000 0 ⟨false, false, true⟩ ⟨false, true, false⟩ ∧
    decodeWord 0b1000000001100111#16 = .a0c000001 0 ⟨true, false, false⟩ ⟨true, true, true⟩ ∧
    decodeWord 0b1000000010111100#16 = .a0c000010 0 ⟨true, true, true⟩ ⟨true, false, false⟩ ∧
    decodeWord 0b1010000011010001#16 = .a0c000011 1 ⟨false, true, false⟩ ⟨false, false, true⟩ ∧
    decodeWord 0b1010000100101110#16 = .a0c000100 1 ⟨true, false, true⟩ ⟨true, true, false⟩ ∧
    decodeWord 0b1010000101000011#16 = .a0c000101 1 ⟨false, false, false⟩ ⟨false, true, true⟩ ∧
    decodeWord 0b1100000110011000#16 = .a0c000110 2 ⟨false, true, true⟩ ⟨false, false, false⟩ ∧
    decodeWord 0b1100000111110101#16 = .a0c000111 2 ⟨true, true, false⟩ ⟨true, false, true⟩ := by decide

/-- R93, R98: class, w[14:13], a, comp, dest, jump, written bit by bit (a0c001000 to a0c001111). -/
theorem test_decode_C_1 :
    decodeWord 0b1100001000001010#16 = .a0c001000 2 ⟨false, false, true⟩ ⟨false, true, false⟩ ∧
    decodeWord 0b1110001001100111#16 = .a0c001001 3 ⟨true, false, false⟩ ⟨true, true, true⟩ ∧
    decodeWord 0b1110001010111100#16 = .a0c001010 3 ⟨true, true, true⟩ ⟨true, false, false⟩ ∧
    decodeWord 0b1110001011010001#16 = .a0c001011 3 ⟨false, true, false⟩ ⟨false, false, true⟩ ∧
    decodeWord 0b1000001100101110#16 = .a0c001100 0 ⟨true, false, true⟩ ⟨true, true, false⟩ ∧
    decodeWord 0b1000001101000011#16 = .a0c001101 0 ⟨false, false, false⟩ ⟨false, true, true⟩ ∧
    decodeWord 0b1000001110011000#16 = .a0c001110 0 ⟨false, true, true⟩ ⟨false, false, false⟩ ∧
    decodeWord 0b1010001111110101#16 = .a0c001111 1 ⟨true, true, false⟩ ⟨true, false, true⟩ := by decide

/-- R93, R98: class, w[14:13], a, comp, dest, jump, written bit by bit (a0c010000 to a0c010111). -/
theorem test_decode_C_2 :
    decodeWord 0b1010010000001010#16 = .a0c010000 1 ⟨false, false, true⟩ ⟨false, true, false⟩ ∧
    decodeWord 0b1010010001100111#16 = .a0c010001 1 ⟨true, false, false⟩ ⟨true, true, true⟩ ∧
    decodeWord 0b1100010010111100#16 = .a0c010010 2 ⟨true, true, true⟩ ⟨true, false, false⟩ ∧
    decodeWord 0b1100010011010001#16 = .a0c010011 2 ⟨false, true, false⟩ ⟨false, false, true⟩ ∧
    decodeWord 0b1100010100101110#16 = .a0c010100 2 ⟨true, false, true⟩ ⟨true, true, false⟩ ∧
    decodeWord 0b1110010101000011#16 = .a0c010101 3 ⟨false, false, false⟩ ⟨false, true, true⟩ ∧
    decodeWord 0b1110010110011000#16 = .a0c010110 3 ⟨false, true, true⟩ ⟨false, false, false⟩ ∧
    decodeWord 0b1110010111110101#16 = .a0c010111 3 ⟨true, true, false⟩ ⟨true, false, true⟩ := by decide

/-- R93, R98: class, w[14:13], a, comp, dest, jump, written bit by bit (a0c011000 to a0c011111). -/
theorem test_decode_C_3 :
    decodeWord 0b1000011000001010#16 = .a0c011000 0 ⟨false, false, true⟩ ⟨false, true, false⟩ ∧
    decodeWord 0b1000011001100111#16 = .a0c011001 0 ⟨true, false, false⟩ ⟨true, true, true⟩ ∧
    decodeWord 0b1000011010111100#16 = .a0c011010 0 ⟨true, true, true⟩ ⟨true, false, false⟩ ∧
    decodeWord 0b1010011011010001#16 = .a0c011011 1 ⟨false, true, false⟩ ⟨false, false, true⟩ ∧
    decodeWord 0b1010011100101110#16 = .a0c011100 1 ⟨true, false, true⟩ ⟨true, true, false⟩ ∧
    decodeWord 0b1010011101000011#16 = .a0c011101 1 ⟨false, false, false⟩ ⟨false, true, true⟩ ∧
    decodeWord 0b1100011110011000#16 = .a0c011110 2 ⟨false, true, true⟩ ⟨false, false, false⟩ ∧
    decodeWord 0b1100011111110101#16 = .a0c011111 2 ⟨true, true, false⟩ ⟨true, false, true⟩ := by decide

/-- R93, R98: class, w[14:13], a, comp, dest, jump, written bit by bit (a0c100000 to a0c100111). -/
theorem test_decode_C_4 :
    decodeWord 0b1100100000001010#16 = .a0c100000 2 ⟨false, false, true⟩ ⟨false, true, false⟩ ∧
    decodeWord 0b1110100001100111#16 = .a0c100001 3 ⟨true, false, false⟩ ⟨true, true, true⟩ ∧
    decodeWord 0b1110100010111100#16 = .a0c100010 3 ⟨true, true, true⟩ ⟨true, false, false⟩ ∧
    decodeWord 0b1110100011010001#16 = .a0c100011 3 ⟨false, true, false⟩ ⟨false, false, true⟩ ∧
    decodeWord 0b1000100100101110#16 = .a0c100100 0 ⟨true, false, true⟩ ⟨true, true, false⟩ ∧
    decodeWord 0b1000100101000011#16 = .a0c100101 0 ⟨false, false, false⟩ ⟨false, true, true⟩ ∧
    decodeWord 0b1000100110011000#16 = .a0c100110 0 ⟨false, true, true⟩ ⟨false, false, false⟩ ∧
    decodeWord 0b1010100111110101#16 = .a0c100111 1 ⟨true, true, false⟩ ⟨true, false, true⟩ := by decide

/-- R93, R98: class, w[14:13], a, comp, dest, jump, written bit by bit (a0c101000 to a0c101111). -/
theorem test_decode_C_5 :
    decodeWord 0b1010101000001010#16 = .a0c101000 1 ⟨false, false, true⟩ ⟨false, true, false⟩ ∧
    decodeWord 0b1010101001100111#16 = .a0c101001 1 ⟨true, false, false⟩ ⟨true, true, true⟩ ∧
    decodeWord 0b1100101010111100#16 = .a0c101010 2 ⟨true, true, true⟩ ⟨true, false, false⟩ ∧
    decodeWord 0b1100101011010001#16 = .a0c101011 2 ⟨false, true, false⟩ ⟨false, false, true⟩ ∧
    decodeWord 0b1100101100101110#16 = .a0c101100 2 ⟨true, false, true⟩ ⟨true, true, false⟩ ∧
    decodeWord 0b1110101101000011#16 = .a0c101101 3 ⟨false, false, false⟩ ⟨false, true, true⟩ ∧
    decodeWord 0b1110101110011000#16 = .a0c101110 3 ⟨false, true, true⟩ ⟨false, false, false⟩ ∧
    decodeWord 0b1110101111110101#16 = .a0c101111 3 ⟨true, true, false⟩ ⟨true, false, true⟩ := by decide

/-- R93, R98: class, w[14:13], a, comp, dest, jump, written bit by bit (a0c110000 to a0c110111). -/
theorem test_decode_C_6 :
    decodeWord 0b1000110000001010#16 = .a0c110000 0 ⟨false, false, true⟩ ⟨false, true, false⟩ ∧
    decodeWord 0b1000110001100111#16 = .a0c110001 0 ⟨true, false, false⟩ ⟨true, true, true⟩ ∧
    decodeWord 0b1000110010111100#16 = .a0c110010 0 ⟨true, true, true⟩ ⟨true, false, false⟩ ∧
    decodeWord 0b1010110011010001#16 = .a0c110011 1 ⟨false, true, false⟩ ⟨false, false, true⟩ ∧
    decodeWord 0b1010110100101110#16 = .a0c110100 1 ⟨true, false, true⟩ ⟨true, true, false⟩ ∧
    decodeWord 0b1010110101000011#16 = .a0c110101 1 ⟨false, false, false⟩ ⟨false, true, true⟩ ∧
    decodeWord 0b1100110110011000#16 = .a0c110110 2 ⟨false, true, true⟩ ⟨false, false, false⟩ ∧
    decodeWord 0b1100110111110101#16 = .a0c110111 2 ⟨true, true, false⟩ ⟨true, false, true⟩ := by decide

/-- R93, R98: class, w[14:13], a, comp, dest, jump, written bit by bit (a0c111000 to a0c111111). -/
theorem test_decode_C_7 :
    decodeWord 0b1100111000001010#16 = .a0c111000 2 ⟨false, false, true⟩ ⟨false, true, false⟩ ∧
    decodeWord 0b1110111001100111#16 = .a0c111001 3 ⟨true, false, false⟩ ⟨true, true, true⟩ ∧
    decodeWord 0b1110111010111100#16 = .a0c111010 3 ⟨true, true, true⟩ ⟨true, false, false⟩ ∧
    decodeWord 0b1110111011010001#16 = .a0c111011 3 ⟨false, true, false⟩ ⟨false, false, true⟩ ∧
    decodeWord 0b1000111100101110#16 = .a0c111100 0 ⟨true, false, true⟩ ⟨true, true, false⟩ ∧
    decodeWord 0b1000111101000011#16 = .a0c111101 0 ⟨false, false, false⟩ ⟨false, true, true⟩ ∧
    decodeWord 0b1000111110011000#16 = .a0c111110 0 ⟨false, true, true⟩ ⟨false, false, false⟩ ∧
    decodeWord 0b1010111111110101#16 = .a0c111111 1 ⟨true, true, false⟩ ⟨true, false, true⟩ := by decide

/-- R93, R98: class, w[14:13], a, comp, dest, jump, written bit by bit (a1c000000 to a1c000111). -/
theorem test_decode_C_8 :
    decodeWord 0b1011000000001010#16 = .a1c000000 1 ⟨false, false, true⟩ ⟨false, true, false⟩ ∧
    decodeWord 0b1011000001100111#16 = .a1c000001 1 ⟨true, false, false⟩ ⟨true, true, true⟩ ∧
    decodeWord 0b1101000010111100#16 = .a1c000010 2 ⟨true, true, true⟩ ⟨true, false, false⟩ ∧
    decodeWord 0b1101000011010001#16 = .a1c000011 2 ⟨false, true, false⟩ ⟨false, false, true⟩ ∧
    decodeWord 0b1101000100101110#16 = .a1c000100 2 ⟨true, false, true⟩ ⟨true, true, false⟩ ∧
    decodeWord 0b1111000101000011#16 = .a1c000101 3 ⟨false, false, false⟩ ⟨false, true, true⟩ ∧
    decodeWord 0b1111000110011000#16 = .a1c000110 3 ⟨false, true, true⟩ ⟨false, false, false⟩ ∧
    decodeWord 0b1111000111110101#16 = .a1c000111 3 ⟨true, true, false⟩ ⟨true, false, true⟩ := by decide

/-- R93, R98: class, w[14:13], a, comp, dest, jump, written bit by bit (a1c001000 to a1c001111). -/
theorem test_decode_C_9 :
    decodeWord 0b1001001000001010#16 = .a1c001000 0 ⟨false, false, true⟩ ⟨false, true, false⟩ ∧
    decodeWord 0b1001001001100111#16 = .a1c001001 0 ⟨true, false, false⟩ ⟨true, true, true⟩ ∧
    decodeWord 0b1001001010111100#16 = .a1c001010 0 ⟨true, true, true⟩ ⟨true, false, false⟩ ∧
    decodeWord 0b1011001011010001#16 = .a1c001011 1 ⟨false, true, false⟩ ⟨false, false, true⟩ ∧
    decodeWord 0b1011001100101110#16 = .a1c001100 1 ⟨true, false, true⟩ ⟨true, true, false⟩ ∧
    decodeWord 0b1011001101000011#16 = .a1c001101 1 ⟨false, false, false⟩ ⟨false, true, true⟩ ∧
    decodeWord 0b1101001110011000#16 = .a1c001110 2 ⟨false, true, true⟩ ⟨false, false, false⟩ ∧
    decodeWord 0b1101001111110101#16 = .a1c001111 2 ⟨true, true, false⟩ ⟨true, false, true⟩ := by decide

/-- R93, R98: class, w[14:13], a, comp, dest, jump, written bit by bit (a1c010000 to a1c010111). -/
theorem test_decode_C_10 :
    decodeWord 0b1101010000001010#16 = .a1c010000 2 ⟨false, false, true⟩ ⟨false, true, false⟩ ∧
    decodeWord 0b1111010001100111#16 = .a1c010001 3 ⟨true, false, false⟩ ⟨true, true, true⟩ ∧
    decodeWord 0b1111010010111100#16 = .a1c010010 3 ⟨true, true, true⟩ ⟨true, false, false⟩ ∧
    decodeWord 0b1111010011010001#16 = .a1c010011 3 ⟨false, true, false⟩ ⟨false, false, true⟩ ∧
    decodeWord 0b1001010100101110#16 = .a1c010100 0 ⟨true, false, true⟩ ⟨true, true, false⟩ ∧
    decodeWord 0b1001010101000011#16 = .a1c010101 0 ⟨false, false, false⟩ ⟨false, true, true⟩ ∧
    decodeWord 0b1001010110011000#16 = .a1c010110 0 ⟨false, true, true⟩ ⟨false, false, false⟩ ∧
    decodeWord 0b1011010111110101#16 = .a1c010111 1 ⟨true, true, false⟩ ⟨true, false, true⟩ := by decide

/-- R93, R98: class, w[14:13], a, comp, dest, jump, written bit by bit (a1c011000 to a1c011111). -/
theorem test_decode_C_11 :
    decodeWord 0b1011011000001010#16 = .a1c011000 1 ⟨false, false, true⟩ ⟨false, true, false⟩ ∧
    decodeWord 0b1011011001100111#16 = .a1c011001 1 ⟨true, false, false⟩ ⟨true, true, true⟩ ∧
    decodeWord 0b1101011010111100#16 = .a1c011010 2 ⟨true, true, true⟩ ⟨true, false, false⟩ ∧
    decodeWord 0b1101011011010001#16 = .a1c011011 2 ⟨false, true, false⟩ ⟨false, false, true⟩ ∧
    decodeWord 0b1101011100101110#16 = .a1c011100 2 ⟨true, false, true⟩ ⟨true, true, false⟩ ∧
    decodeWord 0b1111011101000011#16 = .a1c011101 3 ⟨false, false, false⟩ ⟨false, true, true⟩ ∧
    decodeWord 0b1111011110011000#16 = .a1c011110 3 ⟨false, true, true⟩ ⟨false, false, false⟩ ∧
    decodeWord 0b1111011111110101#16 = .a1c011111 3 ⟨true, true, false⟩ ⟨true, false, true⟩ := by decide

/-- R93, R98: class, w[14:13], a, comp, dest, jump, written bit by bit (a1c100000 to a1c100111). -/
theorem test_decode_C_12 :
    decodeWord 0b1001100000001010#16 = .a1c100000 0 ⟨false, false, true⟩ ⟨false, true, false⟩ ∧
    decodeWord 0b1001100001100111#16 = .a1c100001 0 ⟨true, false, false⟩ ⟨true, true, true⟩ ∧
    decodeWord 0b1001100010111100#16 = .a1c100010 0 ⟨true, true, true⟩ ⟨true, false, false⟩ ∧
    decodeWord 0b1011100011010001#16 = .a1c100011 1 ⟨false, true, false⟩ ⟨false, false, true⟩ ∧
    decodeWord 0b1011100100101110#16 = .a1c100100 1 ⟨true, false, true⟩ ⟨true, true, false⟩ ∧
    decodeWord 0b1011100101000011#16 = .a1c100101 1 ⟨false, false, false⟩ ⟨false, true, true⟩ ∧
    decodeWord 0b1101100110011000#16 = .a1c100110 2 ⟨false, true, true⟩ ⟨false, false, false⟩ ∧
    decodeWord 0b1101100111110101#16 = .a1c100111 2 ⟨true, true, false⟩ ⟨true, false, true⟩ := by decide

/-- R93, R98: class, w[14:13], a, comp, dest, jump, written bit by bit (a1c101000 to a1c101111). -/
theorem test_decode_C_13 :
    decodeWord 0b1101101000001010#16 = .a1c101000 2 ⟨false, false, true⟩ ⟨false, true, false⟩ ∧
    decodeWord 0b1111101001100111#16 = .a1c101001 3 ⟨true, false, false⟩ ⟨true, true, true⟩ ∧
    decodeWord 0b1111101010111100#16 = .a1c101010 3 ⟨true, true, true⟩ ⟨true, false, false⟩ ∧
    decodeWord 0b1111101011010001#16 = .a1c101011 3 ⟨false, true, false⟩ ⟨false, false, true⟩ ∧
    decodeWord 0b1001101100101110#16 = .a1c101100 0 ⟨true, false, true⟩ ⟨true, true, false⟩ ∧
    decodeWord 0b1001101101000011#16 = .a1c101101 0 ⟨false, false, false⟩ ⟨false, true, true⟩ ∧
    decodeWord 0b1001101110011000#16 = .a1c101110 0 ⟨false, true, true⟩ ⟨false, false, false⟩ ∧
    decodeWord 0b1011101111110101#16 = .a1c101111 1 ⟨true, true, false⟩ ⟨true, false, true⟩ := by decide

/-- R93, R98: class, w[14:13], a, comp, dest, jump, written bit by bit (a1c110000 to a1c110111). -/
theorem test_decode_C_14 :
    decodeWord 0b1011110000001010#16 = .a1c110000 1 ⟨false, false, true⟩ ⟨false, true, false⟩ ∧
    decodeWord 0b1011110001100111#16 = .a1c110001 1 ⟨true, false, false⟩ ⟨true, true, true⟩ ∧
    decodeWord 0b1101110010111100#16 = .a1c110010 2 ⟨true, true, true⟩ ⟨true, false, false⟩ ∧
    decodeWord 0b1101110011010001#16 = .a1c110011 2 ⟨false, true, false⟩ ⟨false, false, true⟩ ∧
    decodeWord 0b1101110100101110#16 = .a1c110100 2 ⟨true, false, true⟩ ⟨true, true, false⟩ ∧
    decodeWord 0b1111110101000011#16 = .a1c110101 3 ⟨false, false, false⟩ ⟨false, true, true⟩ ∧
    decodeWord 0b1111110110011000#16 = .a1c110110 3 ⟨false, true, true⟩ ⟨false, false, false⟩ ∧
    decodeWord 0b1111110111110101#16 = .a1c110111 3 ⟨true, true, false⟩ ⟨true, false, true⟩ := by decide

/-- R93, R98: class, w[14:13], a, comp, dest, jump, written bit by bit (a1c111000 to a1c111111). -/
theorem test_decode_C_15 :
    decodeWord 0b1001111000001010#16 = .a1c111000 0 ⟨false, false, true⟩ ⟨false, true, false⟩ ∧
    decodeWord 0b1001111001100111#16 = .a1c111001 0 ⟨true, false, false⟩ ⟨true, true, true⟩ ∧
    decodeWord 0b1001111010111100#16 = .a1c111010 0 ⟨true, true, true⟩ ⟨true, false, false⟩ ∧
    decodeWord 0b1011111011010001#16 = .a1c111011 1 ⟨false, true, false⟩ ⟨false, false, true⟩ ∧
    decodeWord 0b1011111100101110#16 = .a1c111100 1 ⟨true, false, true⟩ ⟨true, true, false⟩ ∧
    decodeWord 0b1011111101000011#16 = .a1c111101 1 ⟨false, false, false⟩ ⟨false, true, true⟩ ∧
    decodeWord 0b1101111110011000#16 = .a1c111110 2 ⟨false, true, true⟩ ⟨false, false, false⟩ ∧
    decodeWord 0b1101111111110101#16 = .a1c111111 2 ⟨true, true, false⟩ ⟨true, false, true⟩ := by decide

/-- R60, R411: the low byte first; a lone byte is no word. -/
theorem test_decode_bytes :
    decode [0xE8, 0xFD, 0x05] = .ok (.a1c110111 3 ⟨true, false, true⟩ ⟨false, false, false⟩, [0x05]) ∧
    decode [0xE8] = .error .truncated := by decide

/-- The numbering of opcode_table.json. -/
theorem test_decodeTableWord :
    decodeTableWord 16 0x6001 = some (.atV 24577) ∧ decodeTableWord 17 0 = none := by decide

/-- R93, R104: `AM=M+1`, with w[14:13] = 11 and 00. -/
theorem test_encode_words :
    encode (.a1c110111 3 ⟨true, false, true⟩ ⟨false, false, false⟩) = 0xFDE8 ∧
    encode (.a1c110111 0 ⟨true, false, true⟩ ⟨false, false, false⟩) = 0x9DE8 ∧
    assembledWord (.a1c110111 0 ⟨true, false, true⟩ ⟨false, false, false⟩) = some 0xFDE8 := by decide

/-- R99 to R103; 95_test_vectors.md S8-D1, VF6. -/
theorem test_disassembly :
    (disassemble 0xFDEF).toList = "AM=M+1;JMP".toList ∧ (disassemble 0x7FFF).toList = "@32767".toList ∧
    (disassemble 0xFFC7).toList = "#a1c111111;JMP".toList ∧ (disassemble 0x9C10).toList = "D=M".toList ∧
    (disassemble 0).toList = "@0".toList := by decide

theorem test_VA1 :
    seen (at1 0 0xFFFF 0x1234 [] 0x0002) = some ⟨1, 2, 0x1234, [], none⟩ := by decide

/-- The PC wraps. -/
theorem test_VA4 :
    seen (at1 32767 0x8000 7 [] 0x0005) = some ⟨0, 5, 7, [], none⟩ := by decide

/-- D after `D=<comp>` with D = x and y the other input: A itself where a = 0, else RAM[16]. -/
def compOut (a : Bool) (w x y : Word) : Option Word :=
  (after (step (if a then at1 0 16 x [(16, y)] w else at1 0 y x [] w))).map State.d

/-- The result of one comp value on the four input pairs of 95_test_vectors.md section 2.2. -/
def compRow (a : Bool) (w : Word) (outs : List Word) : Bool :=
  if a then
    decide ([compOut true w 5 3, (after (step (at1 0 16 0 [] w))).map State.d, compOut true w 0x7FFF 1,
      compOut true w 0x8000 0xFFFF] = outs.map some)
  else
    decide ([compOut false w 5 3, compOut false w 0 0, compOut false w 0x7FFF 1, compOut false w 0x8000 0xFFFF]
      = outs.map some)

/-- Section 2.2, comp 000000 to 000111, a = 0. -/
theorem test_alu_0_0 :
    compRow false 0xE010 [0x0001, 0x0000, 0x0001, 0x8000] = true ∧
    compRow false 0xE050 [0xFFFE, 0xFFFF, 0xFFFE, 0x7FFF] = true ∧
    compRow false 0xE090 [0x0008, 0x0000, 0x8000, 0x7FFF] = true ∧
    compRow false 0xE0D0 [0xFFF7, 0xFFFF, 0x7FFF, 0x8000] = true ∧
    compRow false 0xE110 [0x0004, 0x0000, 0x7FFE, 0x0000] = true ∧
    compRow false 0xE150 [0xFFFB, 0xFFFF, 0x8001, 0xFFFF] = true ∧
    compRow false 0xE190 [0x0001, 0xFFFF, 0x7FFD, 0x8000] = true ∧
    compRow false 0xE1D0 [0xFFFE, 0x0000, 0x8002, 0x7FFF] = true := by decide

/-- Section 2.2, comp 000000 to 000111, a = 1. -/
theorem test_alu_0_1 :
    compRow true 0xF010 [0x0001, 0x0000, 0x0001, 0x8000] = true ∧
    compRow true 0xF050 [0xFFFE, 0xFFFF, 0xFFFE, 0x7FFF] = true ∧
    compRow true 0xF090 [0x0008, 0x0000, 0x8000, 0x7FFF] = true ∧
    compRow true 0xF0D0 [0xFFF7, 0xFFFF, 0x7FFF, 0x8000] = true ∧
    compRow true 0xF110 [0x0004, 0x0000, 0x7FFE, 0x0000] = true ∧
    compRow true 0xF150 [0xFFFB, 0xFFFF, 0x8001, 0xFFFF] = true ∧
    compRow true 0xF190 [0x0001, 0xFFFF, 0x7FFD, 0x8000] = true ∧
    compRow true 0xF1D0 [0xFFFE, 0x0000, 0x8002, 0x7FFF] = true := by decide

/-- Section 2.2, comp 001000 to 001111, a = 0. -/
theorem test_alu_1_0 :
    compRow false 0xE210 [0x0000, 0x0000, 0x0000, 0x0000] = true ∧
    compRow false 0xE250 [0xFFFF, 0xFFFF, 0xFFFF, 0xFFFF] = true ∧
    compRow false 0xE290 [0x0005, 0x0000, 0x7FFF, 0x8000] = true ∧
    compRow false 0xE2D0 [0xFFFA, 0xFFFF, 0x8000, 0x7FFF] = true ∧
    compRow false 0xE310 [0x0005, 0x0000, 0x7FFF, 0x8000] = true ∧
    compRow false 0xE350 [0xFFFA, 0xFFFF, 0x8000, 0x7FFF] = true ∧
    compRow false 0xE390 [0x0004, 0xFFFF, 0x7FFE, 0x7FFF] = true ∧
    compRow false 0xE3D0 [0xFFFB, 0x0000, 0x8001, 0x8000] = true := by decide

/-- Section 2.2, comp 001000 to 001111, a = 1. -/
theorem test_alu_1_1 :
    compRow true 0xF210 [0x0000, 0x0000, 0x0000, 0x0000] = true ∧
    compRow true 0xF250 [0xFFFF, 0xFFFF, 0xFFFF, 0xFFFF] = true ∧
    compRow true 0xF290 [0x0005, 0x0000, 0x7FFF, 0x8000] = true ∧
    compRow true 0xF2D0 [0xFFFA, 0xFFFF, 0x8000, 0x7FFF] = true ∧
    compRow true 0xF310 [0x0005, 0x0000, 0x7FFF, 0x8000] = true ∧
    compRow true 0xF350 [0xFFFA, 0xFFFF, 0x8000, 0x7FFF] = true ∧
    compRow true 0xF390 [0x0004, 0xFFFF, 0x7FFE, 0x7FFF] = true ∧
    compRow true 0xF3D0 [0xFFFB, 0x0000, 0x8001, 0x8000] = true := by decide

/-- Section 2.2, comp 010000 to 010111, a = 0. -/
theorem test_alu_2_0 :
    compRow false 0xE410 [0x0002, 0x0000, 0x0000, 0x7FFF] = true ∧
    compRow false 0xE450 [0xFFFD, 0xFFFF, 0xFFFF, 0x8000] = true ∧
    compRow false 0xE490 [0xFFFD, 0xFFFF, 0x8001, 0x7FFE] = true ∧
    compRow false 0xE4D0 [0x0002, 0x0000, 0x7FFE, 0x8001] = true ∧
    compRow false 0xE510 [0xFFF8, 0xFFFF, 0x8000, 0x0000] = true ∧
    compRow false 0xE550 [0x0007, 0x0000, 0x7FFF, 0xFFFF] = true ∧
    compRow false 0xE590 [0xFFF6, 0xFFFE, 0x7FFE, 0x7FFF] = true ∧
    compRow false 0xE5D0 [0x0009, 0x0001, 0x8001, 0x8000] = true := by decide

/-- Section 2.2, comp 010000 to 010111, a = 1. -/
theorem test_alu_2_1 :
    compRow true 0xF410 [0x0002, 0x0000, 0x0000, 0x7FFF] = true ∧
    compRow true 0xF450 [0xFFFD, 0xFFFF, 0xFFFF, 0x8000] = true ∧
    compRow true 0xF490 [0xFFFD, 0xFFFF, 0x8001, 0x7FFE] = true ∧
    compRow true 0xF4D0 [0x0002, 0x0000, 0x7FFE, 0x8001] = true ∧
    compRow true 0xF510 [0xFFF8, 0xFFFF, 0x8000, 0x0000] = true ∧
    compRow true 0xF550 [0x0007, 0x0000, 0x7FFF, 0xFFFF] = true ∧
    compRow true 0xF590 [0xFFF6, 0xFFFE, 0x7FFE, 0x7FFF] = true ∧
    compRow true 0xF5D0 [0x0009, 0x0001, 0x8001, 0x8000] = true := by decide

/-- Section 2.2, comp 011000 to 011111, a = 0. -/
theorem test_alu_3_0 :
    compRow false 0xE610 [0x0000, 0x0000, 0x0000, 0x0000] = true ∧
    compRow false 0xE650 [0xFFFF, 0xFFFF, 0xFFFF, 0xFFFF] = true ∧
    compRow false 0xE690 [0xFFFA, 0xFFFF, 0x8000, 0x7FFF] = true ∧
    compRow false 0xE6D0 [0x0005, 0x0000, 0x7FFF, 0x8000] = true ∧
    compRow false 0xE710 [0xFFFA, 0xFFFF, 0x8000, 0x7FFF] = true ∧
    compRow false 0xE750 [0x0005, 0x0000, 0x7FFF, 0x8000] = true ∧
    compRow false 0xE790 [0xFFF9, 0xFFFE, 0x7FFF, 0x7FFE] = true ∧
    compRow false 0xE7D0 [0x0006, 0x0001, 0x8000, 0x8001] = true := by decide

/-- Section 2.2, comp 011000 to 011111, a = 1. -/
theorem test_alu_3_1 :
    compRow true 0xF610 [0x0000, 0x0000, 0x0000, 0x0000] = true ∧
    compRow true 0xF650 [0xFFFF, 0xFFFF, 0xFFFF, 0xFFFF] = true ∧
    compRow true 0xF690 [0xFFFA, 0xFFFF, 0x8000, 0x7FFF] = true ∧
    compRow true 0xF6D0 [0x0005, 0x0000, 0x7FFF, 0x8000] = true ∧
    compRow true 0xF710 [0xFFFA, 0xFFFF, 0x8000, 0x7FFF] = true ∧
    compRow true 0xF750 [0x0005, 0x0000, 0x7FFF, 0x8000] = true ∧
    compRow true 0xF790 [0xFFF9, 0xFFFE, 0x7FFF, 0x7FFE] = true ∧
    compRow true 0xF7D0 [0x0006, 0x0001, 0x8000, 0x8001] = true := by decide

/-- Section 2.2, comp 100000 to 100111, a = 0. -/
theorem test_alu_4_0 :
    compRow false 0xE810 [0x0000, 0x0000, 0x0000, 0x0000] = true ∧
    compRow false 0xE850 [0xFFFF, 0xFFFF, 0xFFFF, 0xFFFF] = true ∧
    compRow false 0xE890 [0x0003, 0x0000, 0x0001, 0xFFFF] = true ∧
    compRow false 0xE8D0 [0xFFFC, 0xFFFF, 0xFFFE, 0x0000] = true ∧
    compRow false 0xE910 [0x0000, 0x0000, 0x0000, 0x0000] = true ∧
    compRow false 0xE950 [0xFFFF, 0xFFFF, 0xFFFF, 0xFFFF] = true ∧
    compRow false 0xE990 [0xFFFC, 0xFFFF, 0xFFFE, 0x0000] = true ∧
    compRow false 0xE9D0 [0x0003, 0x0000, 0x0001, 0xFFFF] = true := by decide

/-- Section 2.2, comp 100000 to 100111, a = 1. -/
theorem test_alu_4_1 :
    compRow true 0xF810 [0x0000, 0x0000, 0x0000, 0x0000] = true ∧
    compRow true 0xF850 [0xFFFF, 0xFFFF, 0xFFFF, 0xFFFF] = true ∧
    compRow true 0xF890 [0x0003, 0x0000, 0x0001, 0xFFFF] = true ∧
    compRow true 0xF8D0 [0xFFFC, 0xFFFF, 0xFFFE, 0x0000] = true ∧
    compRow true 0xF910 [0x0000, 0x0000, 0x0000, 0x0000] = true ∧
    compRow true 0xF950 [0xFFFF, 0xFFFF, 0xFFFF, 0xFFFF] = true ∧
    compRow true 0xF990 [0xFFFC, 0xFFFF, 0xFFFE, 0x0000] = true ∧
    compRow true 0xF9D0 [0x0003, 0x0000, 0x0001, 0xFFFF] = true := by decide

/-- Section 2.2, comp 101000 to 101111, a = 0. -/
theorem test_alu_5_0 :
    compRow false 0xEA10 [0x0000, 0x0000, 0x0000, 0x0000] = true ∧
    compRow false 0xEA50 [0xFFFF, 0xFFFF, 0xFFFF, 0xFFFF] = true ∧
    compRow false 0xEA90 [0x0000, 0x0000, 0x0000, 0x0000] = true ∧
    compRow false 0xEAD0 [0xFFFF, 0xFFFF, 0xFFFF, 0xFFFF] = true ∧
    compRow false 0xEB10 [0x0000, 0x0000, 0x0000, 0x0000] = true ∧
    compRow false 0xEB50 [0xFFFF, 0xFFFF, 0xFFFF, 0xFFFF] = true ∧
    compRow false 0xEB90 [0xFFFF, 0xFFFF, 0xFFFF, 0xFFFF] = true ∧
    compRow false 0xEBD0 [0x0000, 0x0000, 0x0000, 0x0000] = true := by decide

/-- Section 2.2, comp 101000 to 101111, a = 1. -/
theorem test_alu_5_1 :
    compRow true 0xFA10 [0x0000, 0x0000, 0x0000, 0x0000] = true ∧
    compRow true 0xFA50 [0xFFFF, 0xFFFF, 0xFFFF, 0xFFFF] = true ∧
    compRow true 0xFA90 [0x0000, 0x0000, 0x0000, 0x0000] = true ∧
    compRow true 0xFAD0 [0xFFFF, 0xFFFF, 0xFFFF, 0xFFFF] = true ∧
    compRow true 0xFB10 [0x0000, 0x0000, 0x0000, 0x0000] = true ∧
    compRow true 0xFB50 [0xFFFF, 0xFFFF, 0xFFFF, 0xFFFF] = true ∧
    compRow true 0xFB90 [0xFFFF, 0xFFFF, 0xFFFF, 0xFFFF] = true ∧
    compRow true 0xFBD0 [0x0000, 0x0000, 0x0000, 0x0000] = true := by decide

/-- Section 2.2, comp 110000 to 110111, a = 0. -/
theorem test_alu_6_0 :
    compRow false 0xEC10 [0x0003, 0x0000, 0x0001, 0xFFFF] = true ∧
    compRow false 0xEC50 [0xFFFC, 0xFFFF, 0xFFFE, 0x0000] = true ∧
    compRow false 0xEC90 [0x0002, 0xFFFF, 0x0000, 0xFFFE] = true ∧
    compRow false 0xECD0 [0xFFFD, 0x0000, 0xFFFF, 0x0001] = true ∧
    compRow false 0xED10 [0xFFFC, 0xFFFF, 0xFFFE, 0x0000] = true ∧
    compRow false 0xED50 [0x0003, 0x0000, 0x0001, 0xFFFF] = true ∧
    compRow false 0xED90 [0xFFFB, 0xFFFE, 0xFFFD, 0xFFFF] = true ∧
    compRow false 0xEDD0 [0x0004, 0x0001, 0x0002, 0x0000] = true := by decide

/-- Section 2.2, comp 110000 to 110111, a = 1. -/
theorem test_alu_6_1 :
    compRow true 0xFC10 [0x0003, 0x0000, 0x0001, 0xFFFF] = true ∧
    compRow true 0xFC50 [0xFFFC, 0xFFFF, 0xFFFE, 0x0000] = true ∧
    compRow true 0xFC90 [0x0002, 0xFFFF, 0x0000, 0xFFFE] = true ∧
    compRow true 0xFCD0 [0xFFFD, 0x0000, 0xFFFF, 0x0001] = true ∧
    compRow true 0xFD10 [0xFFFC, 0xFFFF, 0xFFFE, 0x0000] = true ∧
    compRow true 0xFD50 [0x0003, 0x0000, 0x0001, 0xFFFF] = true ∧
    compRow true 0xFD90 [0xFFFB, 0xFFFE, 0xFFFD, 0xFFFF] = true ∧
    compRow true 0xFDD0 [0x0004, 0x0001, 0x0002, 0x0000] = true := by decide

/-- Section 2.2, comp 111000 to 111111, a = 0. -/
theorem test_alu_7_0 :
    compRow false 0xEE10 [0x0000, 0x0000, 0x0000, 0x0000] = true ∧
    compRow false 0xEE50 [0xFFFF, 0xFFFF, 0xFFFF, 0xFFFF] = true ∧
    compRow false 0xEE90 [0xFFFF, 0xFFFF, 0xFFFF, 0xFFFF] = true ∧
    compRow false 0xEED0 [0x0000, 0x0000, 0x0000, 0x0000] = true ∧
    compRow false 0xEF10 [0xFFFF, 0xFFFF, 0xFFFF, 0xFFFF] = true ∧
    compRow false 0xEF50 [0x0000, 0x0000, 0x0000, 0x0000] = true ∧
    compRow false 0xEF90 [0xFFFE, 0xFFFE, 0xFFFE, 0xFFFE] = true ∧
    compRow false 0xEFD0 [0x0001, 0x0001, 0x0001, 0x0001] = true := by decide

/-- Section 2.2, comp 111000 to 111111, a = 1. -/
theorem test_alu_7_1 :
    compRow true 0xFE10 [0x0000, 0x0000, 0x0000, 0x0000] = true ∧
    compRow true 0xFE50 [0xFFFF, 0xFFFF, 0xFFFF, 0xFFFF] = true ∧
    compRow true 0xFE90 [0xFFFF, 0xFFFF, 0xFFFF, 0xFFFF] = true ∧
    compRow true 0xFED0 [0x0000, 0x0000, 0x0000, 0x0000] = true ∧
    compRow true 0xFF10 [0xFFFF, 0xFFFF, 0xFFFF, 0xFFFF] = true ∧
    compRow true 0xFF50 [0x0000, 0x0000, 0x0000, 0x0000] = true ∧
    compRow true 0xFF90 [0xFFFE, 0xFFFE, 0xFFFE, 0xFFFE] = true ∧
    compRow true 0xFFD0 [0x0001, 0x0001, 0x0001, 0x0001] = true := by decide

theorem test_VD0 :
    seen (at1 0 16 5 [(16, 0xAA)] 0xE7C0) = some ⟨1, 16, 5, [(16, 0xAA)], none⟩ := by decide

theorem test_VD1 :
    seen (at1 0 16 5 [(16, 0xAA)] 0xE7C8) = some ⟨1, 16, 5, [(16, 6)], none⟩ := by decide

theorem test_VD2 :
    seen (at1 0 16 5 [(16, 0xAA)] 0xE7D0) = some ⟨1, 16, 6, [(16, 0xAA)], none⟩ := by decide

theorem test_VD3 :
    seen (at1 0 16 5 [(16, 0xAA)] 0xE7D8) = some ⟨1, 16, 6, [(16, 6)], none⟩ := by decide

theorem test_VD4 :
    seen (at1 0 16 5 [(16, 0xAA)] 0xE7E0) = some ⟨1, 6, 5, [(16, 0xAA)], none⟩ := by decide

theorem test_VD5 :
    seen (at1 0 16 5 [(16, 0xAA)] 0xFDE8) = some ⟨1, 0xAB, 5, [(16, 0xAB)], none⟩ := by decide

theorem test_VD6 :
    seen (at1 0 16 5 [(16, 0xAA)] 0xE7F0) = some ⟨1, 6, 6, [(16, 0xAA)], none⟩ := by decide

theorem test_VD7 :
    seen (at1 0 16 5 [(16, 0xAA)] 0xFCB8) = some ⟨1, 0xA9, 0xA9, [(16, 0xA9)], none⟩ := by decide

theorem test_VD10 :
    seen (at1 0 0x6000 0 [(24576, 0x41)] 0xEE88) = some ⟨1, 0x6000, 0, [(24576, 0xFFFF)], none⟩ := by decide

theorem test_VD11 :
    seen (at1 0 0x6000 0 [(24576, 0x80)] 0xFC10) = some ⟨1, 0x6000, 0x80, [(24576, 0x80)], none⟩ := by decide

/-- The next PC of `D;J..` at PC = 10 with A = 0x0100, for the five values of D of section 2.4. -/
def jumpRow (w : Word) : List (Option RomIndex) :=
  [0x0000, 0x0001, 0x7FFF, 0x8000, 0xFFFF].map fun d => (after (step (at1 10 0x0100 d [] w))).map State.pc

/-- Section 2.4. -/
theorem test_VJ_0 :
    jumpRow 0xE300 = [some 11, some 11, some 11, some 11, some 11] ∧
    jumpRow 0xE301 = [some 11, some 256, some 256, some 11, some 11] ∧
    jumpRow 0xE302 = [some 256, some 11, some 11, some 11, some 11] ∧
    jumpRow 0xE303 = [some 256, some 256, some 256, some 11, some 11] := by decide

/-- Section 2.4. -/
theorem test_VJ_4 :
    jumpRow 0xE304 = [some 11, some 11, some 11, some 256, some 256] ∧
    jumpRow 0xE305 = [some 11, some 256, some 256, some 256, some 256] ∧
    jumpRow 0xE306 = [some 256, some 11, some 11, some 256, some 256] ∧
    jumpRow 0xE307 = [some 256, some 256, some 256, some 256, some 256] := by decide

theorem test_VF1 :
    seen (at1 5 0x6001 7 [] 0xFC10) = some ⟨5, 0x6001, 7, [], some ⟨.ramRead, 5, 0xFC10, 24577⟩⟩ := by decide

theorem test_VF2 :
    seen (at1 5 0x6000 7 [] 0xFC10) = some ⟨6, 0x6000, 0, [], none⟩ := by decide

theorem test_VF3 :
    seen (at1 5 0x8000 7 [] 0xE308) = some ⟨5, 0x8000, 7, [], some ⟨.ramWrite, 5, 0xE308, 32768⟩⟩ := by decide

theorem test_VF4 :
    seen (at1 5 0x8000 7 [] 0xEA87) = some ⟨5, 0x8000, 7, [], some ⟨.jumpTarget, 5, 0xEA87, 32768⟩⟩ := by decide

theorem test_VF5 :
    seen (at1 5 0xFFFF 0 [] 0xE301) = some ⟨6, 0xFFFF, 0, [], none⟩ := by decide

theorem test_VF6 :
    seen (at1 5 0x7530 7 [] 0xFDEF) = some ⟨5, 0x7530, 7, [], some ⟨.ramRead, 5, 0xFDEF, 30000⟩⟩ := by decide

theorem test_VF7 :
    seen (at1 5 0x9000 7 [] 0xE30F) = some ⟨5, 0x9000, 7, [], some ⟨.ramWrite, 5, 0xE30F, 36864⟩⟩ := by decide

theorem test_VF8 :
    seen (at1 5 0x6001 7 [] 0xEA87) = some ⟨24577, 0x6001, 7, [], none⟩ := by decide

theorem test_VF9 :
    seen (at1 5 0x8000 1 [] 0xFEA8) = some ⟨5, 0x8000, 1, [], some ⟨.ramRead, 5, 0xFEA8, 32768⟩⟩ := by decide

/-- R304, after VF1. -/
theorem test_faulted_is_quiescent :
    seen { at1 5 0x6001 7 [] 0xEC10 with fault := some ⟨.ramRead, 5, 0xFC10, 24577⟩ } =
    some ⟨5, 0x6001, 7, [], some ⟨.ramRead, 5, 0xFC10, 24577⟩⟩ := by decide

/-- Section 2.6, VK1 to VK8 and VK10. -/
theorem test_VK :
    kbd [.keyDown .enter] = some 128 ∧
    kbd [.keyDown (.ascii 97), .keyDown (.function 11)] = some 152 ∧
    kbd [.keyDown (.ascii 97), .keyDown (.ascii 98), .keyUp] = some 0 ∧
    kbd [.keyUp] = some 0 ∧
    kbd [.keyDown .escape] = some 140 ∧
    kbd [.keyDown (.ascii 32)] = some 32 ∧
    kbd [.keyDown (.ascii 126)] = some 126 ∧
    kbd [.keyDown .unmapped] = some 0 ∧
    kbd [.keyDown (.ascii 9)] = some 0 ∧
    kbd [.keyDown .left] = some 130 ∧
    kbd [.keyDown .up] = some 131 ∧
    kbd [.keyDown .right] = some 132 ∧
    kbd [.keyDown .down] = some 133 := by decide

theorem test_VK9 :
    seen (at1 0 0x6000 0 [(24576, 65)] 0xEA88) = some ⟨1, 0x6000, 0, [], none⟩ := by decide

/-- Section 2.7. -/
theorem test_VS :
    lit [(16384, 0x8000)] [(0, 0), (1, 0), (15, 0), (0, 1)] = [(0, 0)] ∧
    lit [(16384, 1)] [(0, 0), (14, 0), (15, 0), (16, 0)] = [(15, 0)] ∧
    lit [(16418, 1)] [(47, 1), (46, 1), (15, 1), (47, 0)] = [(47, 1)] ∧
    lit [(24575, 1)] [(511, 255), (510, 255), (496, 255)] = [(511, 255)] ∧
    lit [(24575, 0x8000)] [(511, 255), (496, 255), (495, 255)] = [(496, 255)] ∧
    lit [(16383, 0xFFFF)] [(0, 0), (15, 0), (511, 255)] = [] := by decide

/-- R322: only [16384, 24576) is published. -/
theorem test_screen_republish :
    publishedBy [(16384, 0x8000)] 16383 = [] ∧ publishedBy [] 24576 = [] ∧
    (publishedBy [(24575, 1)] 24575).getLast? = some ((511, 255), true) := by decide

theorem test_VX1 :
    isPaused State.reset = true ∧ isRunning State.reset = false ∧ continuousEnabled State.reset = false := by decide

/-- One of the two steps. -/
theorem test_VX5 :
    (after (step (host { start 0 0 0 [] [] with run := .paused } [.step]))).map (fun t => (t.pc, t.run)) = some (1, .paused) := by decide

theorem test_VX7_step :
    after (step (host { start 3 4 5 [] [] with run := .stopped } [.step])) = some { start 3 4 5 [] [] with run := .stopped } := by decide

theorem test_VX7_load :
    after (step (host { start 3 4 5 [] [] with run := .stopped } [.load ⟨"p.bin", some [2, 0]⟩])) =
    some { start 3 4 5 [] [] with run := .stopped } := by decide

theorem test_VX8 :
    (after (steps 2 (host { start 0 0 0 [] [] with run := .paused } [.setRate 0, .query]))).map State.rate = some 1 ∧
    (after (step (host { start 0 0 0 [] [] with run := .paused } [.setRate 500]))).map State.rate = some 500 := by decide

theorem test_VX9 :
    (after (step (host (start 3 0 0 [] []) [.run]))) = some (start 3 0 0 [] []) := by decide

theorem test_VX10 :
    (after (step (host { start 5 0 0 [] [] with run := .paused, fault := some ⟨.jumpTarget, 5, 0xEA87, 32768⟩ } [.step]))).map
    State.pc = some 5 := by decide

/-- VX3. -/
theorem test_pause_is_immediate :
    ∃ t, step (host (start 3 0 0 [] []) [.pause]) = .next t ∧ isPaused t = true ∧ t.grace ≤ Config.pauseLag := ⟨_, rfl, rfl, drawnLag_le 0⟩

/-- VL1 and VL2. -/
theorem test_VL1 :
    loadImage ⟨"p.bin", some [0x02, 0x00, 0x10, 0xEC]⟩ = some [(0, 0x0002), (1, 0xEC10)] ∧
    loadImage ⟨"p.bin", some [0x02, 0x00, 0x10, 0xEC, 0x07]⟩ = some [(0, 0x0002), (1, 0xEC10)] := by decide

theorem test_VL4 :
    loadImage ⟨"p.hack", some (text "0000000000000010" ++ [13, 10] ++ text "  1110110000010000" ++ [10] ++ text "// comment" ++
    [10, 10] ++ text "1110110000010000")⟩ = some [(0, 0x0002), (1, 0xEC10)] := by decide

theorem test_VL5 :
    loadImage ⟨"p.hack", some (text "111011000001000" ++ [10] ++ text "11101100000100001" ++ [10] ++
    text "1110110000010002")⟩ = some [] := by decide

/-- VL6 to VL8, S8-E2. -/
theorem test_VL6 :
    loadImage ⟨"p.txt", some []⟩ = none ∧ loadImage ⟨"P.BIN", some []⟩ = none ∧ loadImage ⟨"q.hack", none⟩ = none ∧
    loadImage ⟨"e.bin", some []⟩ = some [] := by decide

theorem test_VL9 :
    after (step (host (start 5 9 3 [(0, 4)] [(0, 1)]) [.load ⟨"p.bin", some [0x02, 0x00, 0x10, 0xEC]⟩])) =
    some (start 5 9 3 [(0, 4)] [(0, 2), (1, 0xEC10)]) := by decide

/-- A and D are free. -/
theorem test_VR1 :
    ∃ t, step (host { start 7 3 4 [(0, 9), (24576, 65)] [] with run := .paused } [.reset]) = .next t ∧ t.pc = 0 ∧ t.run = .paused := ⟨_, rfl, by change (resetMachine _).pc = 0; rw [resetMachine_eq], by change (resetMachine _).run = _; rw [resetMachine_eq]; rfl⟩

theorem test_VR3 :
    after (step (host { start 7 3 4 [(0, 9)] [] with run := .stopped } [.reset])) = some { start 7 3 4 [(0, 9)] [] with run := .stopped } := by decide

/-- The second step of the example. -/
theorem test_S8_E1 :
    (after (step (at1 1 2 0 [] 0xE090))).map (fun t => (t.pc, t.a, t.d)) = some (2, 2, 2) := by decide

/-- Log entry 1. -/
theorem test_memory_canonical :
    Memory.write [(3, 1)] 3 0 = [] ∧ Memory.write [(3, 1), (9, 2)] 5 7 = [(3, 1), (5, 7), (9, 2)] ∧
    Memory.wf 10 [(3, 1), (9, 2)] = true ∧ Memory.wf 9 [(3, 1), (9, 2)] = false ∧ Memory.wf 10 [(3, 0)] = false ∧
    Memory.wf 10 [(9, 2), (3, 1)] = false := by decide

/-! ## Witnesses: concrete operands and states that meet the hypotheses of each statement, clause by clause. -/

/-- The comp value `D` (001100). -/
def cD : Ctrl := ⟨false, false, true, true, false, false⟩

/-- The comp value `0` (101010). -/
def cZero : Ctrl := ⟨true, false, true, false, true, false⟩

/-- Whether no check of R140 fires for `out = f D y` with D = 1, this A and RAM[3] = 4. -/
def clean (a : Bool) (d : Dest) (j : Jump) (addr : Word) (f : Word → Word → Word) : Bool :=
  decide (RunsClean a d j (f 1 (yOf a (start 5 addr 1 [(3, 4)] []))) (start 5 addr 1 [(3, 4)] []))

theorem test_witness_DecodeOfEncodeIsIdentity :
    Instr.wellFormed (.atV 0x7FFF) = true ∧ Instr.wellFormed (.atV 0) = true ∧
    Instr.wellFormed (.a1c111111 2 ⟨true, true, true⟩ ⟨true, true, true⟩) = true := by decide

theorem test_witness_DecodeTotalByClassBit :
    (0x7FFF#16).toNat ≤ 0x7FFF ∧ 0x8000 ≤ (0x8000#16).toNat ∧ 0x8000 ≤ (0xFFFF#16).toNat := by decide

theorem test_witness_UnusedBitsAreIgnored :
    (0xFC10#16).getLsbD 15 = true ∧ 0xFC10#16 &&& 0x9FFF#16 = 0x9C10#16 &&& 0x9FFF#16 ∧ 0xFC10#16 ≠ 0x9C10#16 := by decide

theorem test_witness_DisassemblyIsInjective :
    disassemble 0xFC10 = disassemble 0x9C10 ∧ disassemble 0x7FFF = disassemble 0x7FFF := by decide

theorem test_witness_AInstructionLoadsItsLiteral :
    uint (0x7FFF#16) ≤ 32767 ∧ uint (0#16) ≤ 32767 ∧ 0x7FFF#16 &&& 0x8000#16 = 0 := by decide

theorem test_witness_LiteralNeverReachesAFromAC :
    (0xEC10#16).getLsbD 15 = true ∧ (0xEC10#16).getLsbD 5 = false ∧ (0xE320#16).getLsbD 15 = true ∧
    (0xE320#16).getLsbD 5 = true ∧ (start 5 7 9 [] []).fault = none ∧
    ∃ t, exec (decodeWord 0xE320) (start 5 7 9 [] []) = .next t ∧ t.fault = none := ⟨by decide, by decide, by decide, by decide, rfl, _, rfl, rfl⟩

theorem test_witness_CompRows000 :
    clean true ⟨false, false, false⟩ ⟨false, false, false⟩ 24576 (fun x y => x &&& y) = true ∧
    clean true ⟨false, false, false⟩ ⟨false, false, false⟩ 24577 (fun x y => x &&& y) = false ∧
    clean false ⟨false, false, true⟩ ⟨false, false, false⟩ 24576 (fun x y => x &&& y) = true ∧
    clean false ⟨false, false, true⟩ ⟨false, false, false⟩ 24577 (fun x y => x &&& y) = false ∧
    clean false ⟨false, false, false⟩ ⟨true, true, true⟩ 32767 (fun x y => x &&& y) = true ∧
    clean false ⟨false, false, false⟩ ⟨true, true, true⟩ 32768 (fun x y => x &&& y) = false := by decide

theorem test_witness_CompRows001 :
    clean true ⟨false, false, false⟩ ⟨false, false, false⟩ 24576 (fun _ _ => 0x0000) = true ∧
    clean true ⟨false, false, false⟩ ⟨false, false, false⟩ 24577 (fun _ _ => 0x0000) = false ∧
    clean false ⟨false, false, true⟩ ⟨false, false, false⟩ 24576 (fun _ _ => 0x0000) = true ∧
    clean false ⟨false, false, true⟩ ⟨false, false, false⟩ 24577 (fun _ _ => 0x0000) = false ∧
    clean false ⟨false, false, false⟩ ⟨true, true, true⟩ 32767 (fun _ _ => 0x0000) = true ∧
    clean false ⟨false, false, false⟩ ⟨true, true, true⟩ 32768 (fun _ _ => 0x0000) = false := by decide

theorem test_witness_CompRows010 :
    clean true ⟨false, false, false⟩ ⟨false, false, false⟩ 24576 (fun x y => ~~~x &&& y) = true ∧
    clean true ⟨false, false, false⟩ ⟨false, false, false⟩ 24577 (fun x y => ~~~x &&& y) = false ∧
    clean false ⟨false, false, true⟩ ⟨false, false, false⟩ 24576 (fun x y => ~~~x &&& y) = true ∧
    clean false ⟨false, false, true⟩ ⟨false, false, false⟩ 24577 (fun x y => ~~~x &&& y) = false ∧
    clean false ⟨false, false, false⟩ ⟨true, true, true⟩ 32767 (fun x y => ~~~x &&& y) = true ∧
    clean false ⟨false, false, false⟩ ⟨true, true, true⟩ 32768 (fun x y => ~~~x &&& y) = false := by decide

theorem test_witness_CompRows011 :
    clean true ⟨false, false, false⟩ ⟨false, false, false⟩ 24576 (fun _ _ => 0x0000) = true ∧
    clean true ⟨false, false, false⟩ ⟨false, false, false⟩ 24577 (fun _ _ => 0x0000) = false ∧
    clean false ⟨false, false, true⟩ ⟨false, false, false⟩ 24576 (fun _ _ => 0x0000) = true ∧
    clean false ⟨false, false, true⟩ ⟨false, false, false⟩ 24577 (fun _ _ => 0x0000) = false ∧
    clean false ⟨false, false, false⟩ ⟨true, true, true⟩ 32767 (fun _ _ => 0x0000) = true ∧
    clean false ⟨false, false, false⟩ ⟨true, true, true⟩ 32768 (fun _ _ => 0x0000) = false := by decide

theorem test_witness_CompRows100 :
    clean true ⟨false, false, false⟩ ⟨false, false, false⟩ 24576 (fun _ _ => 0x0000) = true ∧
    clean true ⟨false, false, false⟩ ⟨false, false, false⟩ 24577 (fun _ _ => 0x0000) = false ∧
    clean false ⟨false, false, true⟩ ⟨false, false, false⟩ 24576 (fun _ _ => 0x0000) = true ∧
    clean false ⟨false, false, true⟩ ⟨false, false, false⟩ 24577 (fun _ _ => 0x0000) = false ∧
    clean false ⟨false, false, false⟩ ⟨true, true, true⟩ 32767 (fun _ _ => 0x0000) = true ∧
    clean false ⟨false, false, false⟩ ⟨true, true, true⟩ 32768 (fun _ _ => 0x0000) = false := by decide

theorem test_witness_CompRows101 :
    clean true ⟨false, false, false⟩ ⟨false, false, false⟩ 24576 (fun _ _ => 0x0000) = true ∧
    clean true ⟨false, false, false⟩ ⟨false, false, false⟩ 24577 (fun _ _ => 0x0000) = false ∧
    clean false ⟨false, false, true⟩ ⟨false, false, false⟩ 24576 (fun _ _ => 0x0000) = true ∧
    clean false ⟨false, false, true⟩ ⟨false, false, false⟩ 24577 (fun _ _ => 0x0000) = false ∧
    clean false ⟨false, false, false⟩ ⟨true, true, true⟩ 32767 (fun _ _ => 0x0000) = true ∧
    clean false ⟨false, false, false⟩ ⟨true, true, true⟩ 32768 (fun _ _ => 0x0000) = false := by decide

theorem test_witness_CompRows110 :
    clean true ⟨false, false, false⟩ ⟨false, false, false⟩ 24576 (fun _ y => y) = true ∧
    clean true ⟨false, false, false⟩ ⟨false, false, false⟩ 24577 (fun _ y => y) = false ∧
    clean false ⟨false, false, true⟩ ⟨false, false, false⟩ 24576 (fun _ y => y) = true ∧
    clean false ⟨false, false, true⟩ ⟨false, false, false⟩ 24577 (fun _ y => y) = false ∧
    clean false ⟨false, false, false⟩ ⟨true, true, true⟩ 32767 (fun _ y => y) = true ∧
    clean false ⟨false, false, false⟩ ⟨true, true, true⟩ 32768 (fun _ y => y) = false := by decide

theorem test_witness_CompRows111 :
    clean true ⟨false, false, false⟩ ⟨false, false, false⟩ 24576 (fun _ _ => 0x0000) = true ∧
    clean true ⟨false, false, false⟩ ⟨false, false, false⟩ 24577 (fun _ _ => 0x0000) = false ∧
    clean false ⟨false, false, true⟩ ⟨false, false, false⟩ 24576 (fun _ _ => 0x0000) = true ∧
    clean false ⟨false, false, true⟩ ⟨false, false, false⟩ 24577 (fun _ _ => 0x0000) = false ∧
    clean false ⟨false, false, false⟩ ⟨true, true, true⟩ 32767 (fun _ _ => 0x0000) = true ∧
    clean false ⟨false, false, false⟩ ⟨true, true, true⟩ 32768 (fun _ _ => 0x0000) = false := by decide

theorem test_witness_DestFieldRules :
    (let s := start 5 24576 1 [(24576, 4)] []; Memory.wf ramWords s.ram = true ∧
      RunsClean true ⟨true, true, true⟩ ⟨false, false, false⟩ (alu cD s.d (yOf true s)) s ∧ RunsClean false ⟨false, false, false⟩ ⟨false, false, false⟩ (alu cD s.d (yOf false s)) s) ∧
    (let s := start 5 24577 1 [] []; s.fault = none ∧ 24577 ≤ uint s.a) := by decide

theorem test_witness_JumpFieldRules :
    ((true = true ∨ Dest.toM ⟨false, false, true⟩ = true) → uint (start 5 24576 0 [] []).a < 24577) ∧
    (0 < sint (alu cD 1 0)) ∧ ¬ (0 < sint (alu cD 0 0)) ∧ ¬ (0 < sint (alu cD 0x8000 0)) ∧
    alu cD 0 0 = 0 ∧ ¬ alu cD 1 0 = 0 ∧
    sint (alu cD 0x8000 0) < 0 ∧ ¬ sint (alu cD 0 0) < 0 ∧ ¬ sint (alu cD 0x7FFF 0) < 0 ∧
    ((false = true ∨ Dest.toM ⟨false, true, false⟩ = true) → uint (start 5 32768 0 [] []).a < 24577) ∧
    uint (32767#16) < 32768 ∧ 32768 ≤ uint (32768#16) := by decide

theorem test_witness_CombinedJumpRules :
    0 ≤ sint (alu cD 0 0) ∧ ¬ 0 ≤ sint (alu cD 0xFFFF 0) ∧
    alu cD 1 0 ≠ 0 ∧ ¬ alu cD 0 0 ≠ 0 ∧
    sint (alu cD 0 0) ≤ 0 ∧ sint (alu cD 0x8000 0) ≤ 0 ∧ ¬ sint (alu cD 1 0) ≤ 0 ∧
    ((false = true ∨ Dest.toM ⟨false, true, false⟩ = true) → uint (start 5 32768 0 [] []).a < 24577) ∧
    ((true = true ∨ Dest.toM ⟨false, false, true⟩ = true) → uint (start 5 24576 0 [] []).a < 24577) ∧
    uint (32767#16) < 32768 ∧ 32768 ≤ uint (32768#16) := by decide

theorem test_witness_CInstructionFrame :
    (start 5 24576 1 [] []).fault = none ∧
    (∃ t, exec (mkC true cD 3 ⟨false, false, true⟩ ⟨false, false, false⟩) (start 5 24576 1 [] []) = .next t ∧ t.fault = none) ∧
    (∃ t, exec (mkC true cD 3 ⟨false, false, true⟩ ⟨false, false, false⟩) (start 5 24577 1 [] []) = .next t ∧ t.fault ≠ none) ∧
    Dest.toA ⟨false, false, true⟩ = false ∧ Dest.toD ⟨false, false, true⟩ = false ∧ Dest.toM ⟨true, false, false⟩ = false ∧ (5 : Nat) ≠ uint (24576#16) := ⟨rfl, ⟨_, rfl, rfl⟩, ⟨_, rfl, by decide⟩, rfl, rfl, rfl, by decide⟩

theorem test_witness_InstructionReadsOnlyItsCell :
    let s := start 5 16 1 [(3, 8), (16, 4)] [(5, 2)]; let t := start 5 16 1 [(16, 4), (17, 9)] [(5, 7)]
    s.fault = none ∧ t.fault = none ∧ Memory.wf ramWords s.ram = true ∧ Memory.wf ramWords t.ram = true ∧ t.pc = s.pc ∧
    t.a = s.a ∧ t.d = s.d ∧ t.ram.read (uint s.a) = s.ram.read (uint s.a) ∧ s ≠ t := by decide

theorem test_witness_SameRegisterSourceAndDestination :
    (start 5 0xFFFF 0 [] []).a = 0xFFFF#16 ∧
    (let s := start 5 24576 1 [(24576, 4)] []; Memory.wf ramWords s.ram = true ∧ uint s.a < 24577) ∧
    (let s := start 5 24576 1 [(24576, 4)] []; Dest.toA ⟨true, false, false⟩ = true ∧ RunsClean true ⟨true, false, false⟩ ⟨true, true, true⟩ (alu cD s.d (yOf true s)) s ∧
      Takes ⟨true, true, true⟩ (alu cD s.d (yOf true s))) ∧
    (let s := start 32767 32767 0 [] []; uint s.a = s.pc.toNat) := by decide

theorem test_witness_AddressFaultKindsAndPriority :
    (start 5 24577 0 [] []).fault = none ∧ 24577 ≤ uint (start 5 24577 0 [] []).a ∧ Dest.toM ⟨false, false, true⟩ = true ∧
    Dest.toM ⟨false, false, false⟩ = false ∧
    (let s := start 5 32768 0 [] []; Takes ⟨true, true, true⟩ (alu cD s.d (yOf false s)) ∧ 32768 ≤ uint s.a) ∧
    (let s := start 5 24576 0 [] []; ¬ ((true = true ∨ Dest.toM ⟨false, false, true⟩ = true) ∧ 24577 ≤ uint s.a) ∧
      ¬ (Takes ⟨true, true, true⟩ (alu cD s.d (yOf true s)) ∧ 32768 ≤ uint s.a)) := by decide

theorem test_witness_FaultComesOnlyFromAnInstruction :
    (at1 5 24577 0 [] 0xFC10).fault = none ∧ ∃ t f, step (at1 5 24577 0 [] 0xFC10) = .next t ∧ t.fault = some f := ⟨rfl, _, _, rfl, rfl⟩

theorem test_witness_FaultIsStickyAndStopsInstructions :
    { start 5 0 0 [] [] with fault := some ⟨.ramRead, 5, 0xFC10, 24577⟩ }.fault = some ⟨.ramRead, 5, 0xFC10, 24577⟩ := by decide

theorem test_witness_DataAddressesDoNotAlias :
    Memory.wf ramWords [(24576, 1)] = true ∧ 24576 < ramWords ∧ (24575 : Nat) ≠ 24576 := by decide

theorem test_witness_CanonicalMemoriesAreEqualWhenTheyReadAlike :
    Memory.wf 10 (Memory.write [(3, 1)] 5 7) = true ∧ Memory.wf 10 (Memory.write [(5, 7)] 3 1) = true ∧
    ∀ addr, (Memory.write [(3, 1)] 5 7).read addr = (Memory.write [(5, 7)] 3 1).read addr := ⟨by decide, by decide, fun _ => rfl⟩

theorem test_witness_RomChangesOnlyByLoad :
    let s := host (start 5 9 3 [] []) [.load ⟨"p.bin", some [2, 0]⟩]
    (∃ t, step s = .next t ∧ t.rom ≠ s.rom) ∧ ∃ t, exec (.atV 2) s = .next t := ⟨⟨_, rfl, by decide⟩, _, rfl⟩

theorem test_witness_RamWriters :
    (∃ t, step (at1 5 24576 3 [] 0xE308) = .next t ∧ t.ram.read 24576 ≠ (at1 5 24576 3 [] 0xE308).ram.read 24576) ∧
    (∃ t, step (host (start 5 0 0 [] []) [.keyDown .enter]) = .next t ∧
      t.ram.read 24576 ≠ (start 5 0 0 [] []).ram.read 24576) := ⟨⟨_, rfl, by decide⟩, _, rfl, by decide⟩

theorem test_witness_StepRunsTheDecodedInstruction :
    (start 5 0 0 [] []).fault = none ∧ (start 5 0 0 [] []).schedule = [] ∧ (start 5 0 0 [] []).run = .running ∧
    { start 5 0 0 [] [] with run := .paused, grace := 1 }.run ≠ .running ∧
    0 < { start 5 0 0 [] [] with run := .paused, grace := 1 }.grace ∧
    (host (start 5 0 0 [] []) [.engine]).schedule = .engine :: [] ∧ (host (start 5 0 0 [] []) [.step]).schedule = .step :: [] ∧
    { start 5 0 0 [] [] with run := .paused }.run ≠ .stopped := by decide

theorem test_witness_ContinuousStepNeedsToBeEnabled :
    (start 5 0 0 [] []).schedule = [] ∧ (start 5 0 0 [] []).fault = none ∧ (start 5 0 0 [] []).run = .running ∧
    ({ start 5 0 0 [] [] with run := .paused }.run ≠ .running ∧ { start 5 0 0 [] [] with run := .paused }.grace = 0) ∧
    (let s := host { start 5 0 0 [] [] with run := .paused } [.engine, .run];
      s.schedule = .engine :: [.run] ∧ s.run ≠ .running ∧ s.grace = 0 ∧ s.fault = none) ∧
    (let s := host { start 5 0 0 [] [] with run := .stopped, grace := 1 } [.engine];
      s.schedule = .engine :: [] ∧ s.fault = none ∧ 0 < s.grace) ∧
    { start 5 0 0 [] [] with fault := some ⟨.ramRead, 5, 0xFC10, 24577⟩ }.fault ≠ none := by decide

theorem test_witness_StepKeepsTheInvariant :
    Invariant (at1 5 24576 3 [(24576, 1)] 0xE308) ∧ ∃ t, step (at1 5 24576 3 [(24576, 1)] 0xE308) = .next t := ⟨⟨by decide, by decide, by decide, Nat.zero_le _, by decide⟩, _, rfl⟩

theorem test_witness_CommandTable :
    (host (start 5 0 0 [] []) [.run]).schedule = .run :: [] ∧ (host (start 5 0 0 [] []) [.pause]).schedule = .pause :: [] ∧
    (host (start 5 0 0 [] []) [.windowClose]).schedule = .windowClose :: [] ∧
    (host (start 5 0 0 [] []) [.setRate 1]).schedule = .setRate 1 :: [] ∧ (start 5 0 0 [] []).run = .running ∧
    { start 5 0 0 [] [] with run := .paused }.run ≠ .running ∧ { start 5 0 0 [] [] with run := .stopped }.run = .stopped ∧
    { start 5 0 0 [] [] with run := .paused }.run = .paused ∧
    ∃ t, step (host (start 5 0 0 [] []) [.pause]) = .next t := ⟨rfl, rfl, rfl, rfl, rfl, by decide, rfl, rfl, _, rfl⟩

theorem test_witness_SingleStepCommand :
    (let s := host { start 5 0 0 [] [] with run := .paused } [.step]; s.schedule = .step :: [] ∧ s.run ≠ .stopped ∧ s.fault = none) ∧
    (host { start 5 0 0 [] [] with run := .stopped } [.step]).run = .stopped ∧
    { start 5 0 0 [] [] with fault := some ⟨.ramRead, 5, 0xFC10, 24577⟩ }.fault ≠ none := by decide

theorem test_witness_StoppedIsTerminal :
    { start 5 0 0 [] [] with run := .stopped }.run = .stopped ∧ (Event.reset ≠ .engine) ∧
    { start 5 0 0 [] [] with run := .stopped }.grace = 0 := by decide

/-- Paused with two continuous steps left, and a key event, the engine's turn and a `reset()` to come. -/
def lagging : State := host { start 5 0 0 [] [] with run := .paused, grace := 2 } [.keyUp, .engine, .reset]

theorem test_witness_PauseLagIsBounded :
    (lagging.run ≠ .running ∧ ∀ m t, m < 2 → steps m lagging = .next t → ¬ Resumes t) ∧ continuousSteps 2 lagging = 1 ∧
    (let s := { start 5 0 0 [] [] with run := .paused, grace := 1 }; s.run ≠ .running ∧ s.schedule = [] ∧ s.fault = none ∧
      (∀ m t, m < 1 → steps m s = .next t → ¬ Resumes t) ∧ continuousSteps 1 s = s.grace) ∧
    (start 5 0 0 [] []).run = .running ∧ (host (start 5 0 0 [] []) [.pause]).schedule = .pause :: [] ∧
    (host (start 5 0 0 [] []) [.windowClose]).schedule = .windowClose :: [] ∧
    ∃ t, step (host (start 5 0 0 [] []) [.windowClose]) = .next t ∧ ∀ m u, m < 1 → steps m t = .next u → ¬ Resumes u := by
  refine ⟨⟨by decide, fun m t hm ht => ?_⟩, by decide, ⟨by decide, rfl, rfl, fun m t hm ht => ?_, by decide⟩, rfl, rfl, rfl,
    _, rfl, fun m u hm hu => ?_⟩
  · match m, hm with
    | 0, _ => cases ht; unfold Resumes; decide
    | 1, _ => cases ht; unfold Resumes; decide
  · match m, hm with
    | 0, _ => cases ht; unfold Resumes; decide
  · match m, hm with
    | 0, _ => cases hu; exact fun h => nomatch h.1

theorem test_witness_RateIsInvisible :
    (∀ r, Event.setRate r ∉ (host (start 5 0 0 [] []) [.keyUp, .step]).schedule) ∧
    ∃ t, steps 2 (host (start 5 0 0 [] []) [.keyUp, .step]) = .next t := ⟨fun r h => by simp [host] at h, _, rfl⟩

theorem test_witness_KeyEventsWriteTheKeyboardRegister :
    (let s := host { start 5 0 0 [(24576, 65)] [] with run := .paused } [.keyDown (.ascii 126)];
      Memory.wf ramWords s.ram = true ∧ s.run ≠ .stopped ∧ s.schedule = .keyDown (.ascii 126) :: []) ∧
    keyCode (.ascii 126) = some 126 ∧ keyCode (.ascii 127) = none ∧
    (host (start 5 0 0 [] []) [.keyDown (.ascii 127)]).schedule = .keyDown (.ascii 127) :: [] ∧
    (host (start 5 0 0 [] []) [.keyUp]).schedule = .keyUp :: [] := by decide

theorem test_witness_KeyCodeTable :
    32 ≤ (32#7).toNat ∧ (32#7).toNat ≤ 126 ∧ 32 ≤ (126#7).toNat ∧ (126#7).toNat ≤ 126 ∧
    ((31#7).toNat < 32 ∨ (31#7).toNat = 127) ∧ ((127#7).toNat < 32 ∨ (127#7).toNat = 127) := by decide

theorem test_witness_LastKeyEventWins :
    let s := host (start 5 0 0 [] []) [.keyDown (.ascii 97), .keyDown (.function 11), .run]
    Memory.wf ramWords s.ram = true ∧ s.run ≠ .stopped ∧
    s.schedule = [.keyDown (.ascii 97), .keyDown (.function 11)] ++ [.run] ∧
    (∀ e ∈ [Event.keyDown (.ascii 97), .keyDown (.function 11)], isKeyEvent e = true) ∧
    [Event.keyDown (.ascii 97), .keyDown (.function 11)].getLast? = some (.keyDown (.function 11)) := by decide

theorem test_witness_ProgramReadsAndWritesTheKeyboardRegister :
    uint (start 5 24576 0 [(24576, 65)] []).a = 24576 ∧ Memory.wf ramWords [(24576, (65 : Word))] = true ∧
    Dest.toM ⟨false, false, true⟩ = true := by decide

theorem test_witness_ScreenWriteRepublishesItsSixteenPixels :
    Memory.wf ramWords [(16384, (1 : Word))] = true ∧ uint (24575#16) < 24577 ∧ uint (24576#16) < 24577 ∧ (16384 ≤ 24575 ∧ 24575 < 24576) ∧
    ((16383 < 16384 ∨ 24576 ≤ 16383) ∧ (24576 < 16384 ∨ 24576 ≤ 24576)) ∧
    24575 = 16384 + 32 * (255 : Fin 256).val + (511 : Fin 512).val / 16 ∧ ((511, 255), true) ∈ publishedBy [(24575, 1)] 24575 ∧
    16384 = 16384 + 32 * (0 : Fin 256).val + (15 : Fin 512).val / 16 ∧ ((15, 0), true) ∈ publishedBy [(16384, 1)] 16384 := by decide

theorem test_witness_BinImageFormat :
    EndsIn "p.bin" ".bin" := ⟨['p'], by decide⟩

theorem test_witness_HackImageFormat :
    0x0A#8 ∉ hackLine 0xEC10 ∧ 0x0A#8 ∉ hackLine 2 ++ [0x0D#8] ∧ 0x0A#8 ∉ text "// comment" ∧
    (∀ w, text "//" ≠ hackLine w ∧ text "//" ≠ hackLine w ++ [0x0D#8]) ∧ EndsIn "p.hack" ".hack" ∧ EndsIn "p.bin" ".bin" ∧
    (∃ m, loadImage ⟨"p.hack", some (hackLine 7)⟩ = some m) ∧ 32768 ≤ 32768 := ⟨by decide, by decide, by decide, fun w => ⟨fun h => absurd (congrArg List.length h) (by simp [hackLine, text]), fun h =>
      absurd (congrArg List.length h) (by simp [hackLine, text])⟩, ⟨['p'], by decide⟩, ⟨['p'], by decide⟩, ⟨_, rfl⟩, by decide⟩

theorem test_witness_LoadCommitsTheStoreOnly :
    (let s := host (start 5 0 0 [] []) [.load ⟨"p.bin", some [2, 0]⟩];
      s.schedule = .load ⟨"p.bin", some [2, 0]⟩ :: [] ∧ s.run ≠ .stopped) ∧
    loadImage ⟨"p.bin", some [2, 0]⟩ = some [(0, 2)] ∧ loadImage ⟨"p.txt", some [2, 0]⟩ = none ∧
    { start 5 0 0 [] [] with run := .stopped }.run = .stopped := by decide

theorem test_witness_ResetCommandEffect :
    (let s := host (start 5 3 4 [] []) [.reset]; s.schedule = .reset :: [] ∧ s.run ≠ .stopped ∧ s.run = .running ∧ s.fault = none) ∧
    { start 5 0 0 [] [] with run := .stopped }.run = .stopped := by decide

theorem test_witness_ParkedStateIsUnchanged :
    parked (start 7 7 0 [] [(7, 0xEA87)]) = true ∧ parked (start 7 7 0 [(7, 1)] [(7, 0xFC05)]) = true ∧
    (start 7 7 0 [] []).run = .running ∧ (start 7 7 0 [] []).schedule = [] ∧
    (host (start 7 7 0 [] []) [.step]).schedule = .step :: [] := by decide

theorem test_witness_HaltIdiomLoopsForever :
    InHaltLoop 32766 (start 32766 0 0 [] [(32766, 32766), (32767, 0xEA87)]) ∧
    InHaltLoop 32766 (start 32767 32766 0 [] [(32766, 32766), (32767, 0xEA87)]) ∧ InHaltLoop 0 (start 0 5 0 [] [(1, 0xEA87)]) ∧
    (start 32767 32766 0 [] []).fault = none ∧ (start 32767 32766 0 [] []).run = .running ∧
    (start 32767 32766 0 [] []).schedule = [] := by unfold InHaltLoop HaltIdiomAt; decide

theorem test_witness_HostReadsChangeNothing :
    (host (start 5 0 0 [] []) [.query]).schedule = .query :: [] ∧ (host (start 5 0 0 [] []) [.readState]).schedule = .readState :: [] ∧
    (host (start 5 0 0 [] []) [.pause]).schedule = .pause :: [] ∧ (host (start 5 0 0 [] []) [.pause]).run = .running := by decide

/-- A parked state at h = 7, in Running with nothing scheduled. -/
def parkedAt7 : State := start 7 7 0 [] [(7, 0xEA87)]

theorem steps_parkedAt7 (n : Nat) : steps n parkedAt7 = .next parkedAt7 := by
  induction n with
  | zero => rfl
  | succ n ih => rw [steps_succ (show step parkedAt7 = .next parkedAt7 from rfl), ih]

/-- A state of P1 (95_test_vectors.md) two events before its end, at `@2`: D = 12, h = 6. -/
def p1AtIndex4 : State := start 4 1 12 [(0, 7), (1, 5)] [(4, 2), (5, 0xE308), (6, 6), (7, 0xEA87)]

/-- A state whose next instruction, D=M with A = 24577, raises RamRead. -/
def aboutToFault : State := at1 5 24577 0 [] 0xFC10

/-- P1: the run ends at its first visit of h = 6, with A = 2; at the next visit A is 6. -/
theorem test_P1_end :
    HaltIndex 6 p1AtIndex4.rom ∧ (∃ t, EndsAfter 6 2 p1AtIndex4 t ∧ t.a = 2 ∧ t.d = 12 ∧ t.ram = [(0, 7), (1, 5), (2, 12)]) ∧
    ∃ u, steps 4 p1AtIndex4 = .next u ∧ EndedAt 6 u ∧ u.a = 6 := by
  refine ⟨.inl (by unfold HaltIdiomAt; decide), ⟨_, ⟨by decide, rfl, ⟨rfl, rfl, by decide⟩, fun m t h0 hm ht => ?_⟩, rfl, rfl, rfl⟩,
    _, rfl, ⟨rfl, rfl, by decide⟩, rfl⟩
  match m, h0, hm with
  | 1, _, _ => cases ht; exact fun h => absurd h.1 (by decide)

theorem test_witness_EndOfRunIsItsFirst :
    EndsAfter 7 1 parkedAt7 parkedAt7 ∧ ClaimHolds 7 (fun s => s = parkedAt7) (fun a _ _ => a = 7) ∧
    (RunFaults 7 1 aboutToFault ∧ keepsDuties 1 aboutToFault = true ∧ aboutToFault.fault = none) ∧ keepsDuties 1 parkedAt7 = true ∧
    (parked parkedAt7 = true ∧ parkedAt7.pc.toNat = 7 ∧ parkedAt7.run = .running ∧ parkedAt7.schedule = []) ∧
    { parkedAt7 with run := .stopped }.run = .stopped ∧
    { parkedAt7 with fault := some ⟨.ramRead, 7, 0xFC10, 24577⟩ }.fault ≠ none ∧
    (let s := start 32767 32766 0 [] [(32766, 32766), (32767, 0xEA87)];
      InHaltLoop 32766 s ∧ s.fault = none ∧ s.run = .running ∧ s.schedule = []) := by
  have ended : EndedAt 7 parkedAt7 := ⟨rfl, rfl, by decide⟩
  refine ⟨⟨by decide, rfl, ended, fun m t h0 hm => by omega⟩, fun s hs => ?_,
    ⟨⟨_, rfl, (fun h => nomatch h), fun m t h0 hm => by omega⟩, rfl, rfl⟩, rfl, ⟨by decide, rfl, rfl, rfl⟩, rfl, by decide,
    by unfold InHaltLoop HaltIdiomAt; decide⟩
  subst hs
  refine ⟨.inr ⟨parkedAt7, rfl, rfl, by decide⟩, fun n _ => ⟨fun ⟨t, ht, hf, _⟩ => ?_, fun t he => ?_⟩⟩
  · rw [steps_parkedAt7] at ht
    cases ht
    exact hf rfl
  · have ht := he.2.1
    rw [steps_parkedAt7] at ht
    cases ht
    rfl

/-- The host delivers a key that is in no table, and then D=M at 5 with A = 24577 raises RamRead; the halt idiom is at 7. -/
def dutyBroken : State := host (start 5 24577 0 [] [(5, 0xFC10), (7, 7), (8, 0xEA87)]) [.keyDown .unmapped]

theorem test_witness_ClaimsSayNothingPastABrokenDuty :
    HaltIndex 7 dutyBroken.rom ∧ Safe dutyBroken ∧ RunFaults 7 2 dutyBroken ∧ keepsDuties 2 dutyBroken = false ∧
    dutyBroken.schedule = [] ++ .keyDown .unmapped :: [] ∧ keepsDuty (.keyDown .unmapped) = false ∧
    keepsDuty (.keyDown (.ascii 31)) = false ∧ keepsDuty (.keyDown (.ascii 127)) = false ∧
    keepsDuty (.keyDown (.ascii 32)) = true ∧ keepsDuty (.keyDown (.ascii 126)) = true ∧ keepsDuty .keyUp = true := by
  refine ⟨.inl (by unfold HaltIdiomAt; decide), rfl, ⟨_, rfl, (fun h => nomatch h), fun m t h0 hm ht => ?_⟩, by decide,
    rfl, by decide, by decide, by decide, by decide, by decide, by decide⟩
  match m, h0, hm with
  | 1, _, _ => cases ht; exact fun h => absurd h.1 (by decide)

end Sys2Proof.Tests
end

/-! PROOFS of the statements of 10_state.md: the two memories and their writers, and the machine invariant. -/

namespace Sys2Proof.Machine

/-! ### The canonical form: a store is determined by what it reads -/

/-- The first cell of a canonical store lies at or below every address that reads a Word other than 0x0000. -/
theorem Memory.head_le_of_read_ne_zero {size lo k addr : Nat} {v : Word} {m : Memory}
    (h : Memory.wfFrom size lo ((k, v) :: m) = true) (hread : Memory.read ((k, v) :: m) addr ≠ 0) : k ≤ addr := by
  by_contra hlt
  obtain ⟨-, hk, hv, hm⟩ := (Memory.wfFrom_pair ..).1 h
  exact hread (Memory.read_below ((Memory.wfFrom_pair ..).2 ⟨Nat.le_refl k, hk, hv, hm⟩) (by omega))

/-- The first cell of a canonical store reads its own Word, which is not 0x0000. -/
theorem Memory.read_head_ne_zero {size lo k : Nat} {v : Word} {m : Memory}
    (h : Memory.wfFrom size lo ((k, v) :: m) = true) : Memory.read ((k, v) :: m) k ≠ 0 := by
  obtain ⟨-, -, hv, -⟩ := (Memory.wfFrom_pair ..).1 h
  rwa [Memory.read_pair, if_pos rfl]

/-- Canonical stores that read alike and have their first cells at one address agree in these cells and read alike after
them. -/
theorem Memory.read_tail_eq {size lo k : Nat} {v v' : Word} {m m' : Memory}
    (h : Memory.wfFrom size lo ((k, v) :: m) = true) (h' : Memory.wfFrom size lo ((k, v') :: m') = true)
    (hread : ∀ addr, Memory.read ((k, v) :: m) addr = Memory.read ((k, v') :: m') addr) :
    v = v' ∧ ∀ addr, Memory.read m addr = Memory.read m' addr := by
  obtain ⟨-, -, -, hm⟩ := (Memory.wfFrom_pair ..).1 h
  obtain ⟨-, -, -, hm'⟩ := (Memory.wfFrom_pair ..).1 h'
  simp only [Memory.read_pair] at hread
  refine ⟨by simpa using hread k, fun addr => ?_⟩
  by_cases hk : k = addr
  · rw [Memory.read_below hm (by omega), Memory.read_below hm' (by omega)]
  · simpa [hk] using hread addr

/-- R26, R27: the canonical form is unique. -/
theorem Memory.eq_of_read_eq {size lo : Nat} {m m' : Memory} (h : Memory.wfFrom size lo m = true)
    (h' : Memory.wfFrom size lo m' = true) (hread : ∀ addr, Memory.read m addr = Memory.read m' addr) : m = m' := by
  induction m generalizing lo m' with
  | nil =>
    cases m' with
    | nil => rfl
    | cons c' rest' => exact absurd (hread c'.1).symm (Memory.read_head_ne_zero h')
  | cons c rest ih =>
    obtain ⟨k, v⟩ := c
    cases m' with
    | nil => exact absurd (hread k) (Memory.read_head_ne_zero h)
    | cons c' rest' =>
      obtain ⟨k', v'⟩ := c'
      have hle : k' ≤ k := Memory.head_le_of_read_ne_zero h' (hread k ▸ Memory.read_head_ne_zero h)
      have hge : k ≤ k' := Memory.head_le_of_read_ne_zero h (hread k' ▸ Memory.read_head_ne_zero h')
      obtain rfl : k = k' := Nat.le_antisymm hge hle
      obtain ⟨rfl, htail⟩ := Memory.read_tail_eq h h' hread
      obtain ⟨-, -, -, hm⟩ := (Memory.wfFrom_pair ..).1 h
      obtain ⟨-, -, -, hm'⟩ := (Memory.wfFrom_pair ..).1 h'
      rw [ih hm hm' htail]

/-! ### What one instruction can do -/

/-- R150: a Word whose jump field is 000 never jumps. -/
theorem jumpField_ne_zero_of_taken {w out : Word} (h : jumpTaken (jumpOf w) out = true) : w.extractLsb' 0 3 ≠ 0 := by
  intro hzero
  have hbit : ∀ i, i < 3 → w.getLsbD i = false := fun i hi => by
    simpa [hi] using congrArg (·.getLsbD i) hzero
  have hfield : jumpOf w = ⟨false, false, false⟩ := by
    simp only [jumpOf, hbit 2 (by decide), hbit 1 (by decide), hbit 0 (by decide)]
  simp [hfield, jumpTaken_iff] at h

/-- R301: the record of a RamRead fault of a C-instruction with a = 1 is sound. -/
theorem sound_ramRead (pc : RomIndex) (c : Ctrl) (u : BitVec 2) (d : Dest) (j : Jump) {addr : Word}
    (h : ramValid addr = false) : AddressFault.sound ⟨.ramRead, pc, encodeC true c u d j, addr⟩ = true := by
  have hrange : ramWords ≤ uint addr := by simpa [ramValid] using h
  simp only [AddressFault.sound, class_encodeC, a_encodeC, hrange, decide_true, Bool.and_self]

/-- R301: the record of a RamWrite fault of a C-instruction with dM = 1 is sound. -/
theorem sound_ramWrite (pc : RomIndex) (a : Bool) (c : Ctrl) (u : BitVec 2) {d : Dest} (j : Jump) {addr : Word}
    (hd : d.toM = true) (h : ramValid addr = false) :
    AddressFault.sound ⟨.ramWrite, pc, encodeC a c u d j, addr⟩ = true := by
  have hrange : ramWords ≤ uint addr := by simpa [ramValid] using h
  have hbit : (encodeC a c u d j).getLsbD 3 = true := (congrArg Dest.toM (destOf_encodeC a c u d j)).trans hd
  simp only [AddressFault.sound, class_encodeC, hbit, hrange, decide_true, Bool.and_self]

/-- R301: the record of a JumpTarget fault of a C-instruction that jumps is sound. -/
theorem sound_jumpTarget (pc : RomIndex) (a : Bool) (c : Ctrl) (u : BitVec 2) (d : Dest) {j : Jump} {addr out : Word}
    (htake : jumpTaken j out = true) (h : jumpValid addr = false) :
    AddressFault.sound ⟨.jumpTarget, pc, encodeC a c u d j, addr⟩ = true := by
  have hrange : romWords ≤ uint addr := by simpa [jumpValid] using h
  rw [← jumpOf_encodeC a c u d j] at htake
  simp only [AddressFault.sound, class_encodeC, hrange, decide_true, Bool.and_self, Bool.true_and,
    decide_eq_true_eq]
  exact jumpField_ne_zero_of_taken htake

/-- R140, R301: a C-instruction records a sound AddressFault, or commits with both its RAM accesses and its jump target in
range. -/
theorem cStep_sound_or_commit {a : Bool} {c : Ctrl} {u : BitVec 2} {d : Dest} {j : Jump} {s t : State}
    (h : cStep a c u d j s = .next t) :
    (∃ k, AddressFault.sound ⟨k, s.pc, encodeC a c u d j, s.a⟩ = true ∧
      t = setFault s ⟨k, s.pc, encodeC a c u d j, s.a⟩) ∨
    ∃ y, operandY a s = some y ∧ (d.toM = true → uint s.a < 24577) ∧
      (jumpTaken j (alu c s.d y) = true → uint s.a < 32768) ∧
      t = commit d (alu c s.d y) (jumpTaken j (alu c s.d y)) s := by
  rcases cStep_cases a c u d j s with ⟨rfl, hv, hread⟩ | ⟨y, hy, hfinish⟩
  · cases hread.symm.trans h
    exact .inl ⟨_, sound_ramRead _ c u d j hv, rfl⟩
  · rw [hfinish] at h
    rcases finishC_cases (encodeC a c u d j) d (alu c s.d y) (jumpTaken j (alu c s.d y)) s with
      ⟨hd, hv, hwrite⟩ | ⟨-, htake, hv, hjump⟩ | ⟨hm, htake, hcommit⟩
    · cases hwrite.symm.trans h
      exact .inl ⟨_, sound_ramWrite _ a c u j hd hv, rfl⟩
    · cases hjump.symm.trans h
      exact .inl ⟨_, sound_jumpTarget _ a c u d htake hv, rfl⟩
    · cases hcommit.symm.trans h
      exact .inr ⟨y, hy, fun hd => (ramValid_iff _).1 (hm hd), fun ht => (jumpValid_iff _).1 (htake ht), rfl⟩

/-- R30, R301: an instruction leaves the fault record as it was, or records a sound AddressFault. -/
theorem exec_keeps_faultSound {i : Instr} {s t : State} (h : exec i s = .next t) (hs : faultSound s.fault = true) :
    faultSound t.fault = true := by
  rcases atV_or_mkC i with ⟨v, rfl⟩ | ⟨a, c, u, d, j, rfl⟩
  · rw [exec_atV] at h
    cases h
    exact hs
  · rw [exec_mkC] at h
    rcases cStep_sound_or_commit h with ⟨k, hk, rfl⟩ | ⟨y, -, -, -, rfl⟩
    · exact hk
    · exact hs

/-- R27, R54: an instruction leaves the Memory Bank as it was, or is a C-instruction with dM = 1 that writes one Word at an
address A in range. -/
theorem exec_ram {i : Instr} {s t : State} (h : exec i s = .next t) :
    t.ram = s.ram ∨ ∃ a c u d j out, i = mkC a c u d j ∧ d.toM = true ∧ uint s.a < 24577 ∧
      t.ram = s.ram.write (uint s.a) out := by
  rcases atV_or_mkC i with ⟨v, rfl⟩ | ⟨a, c, u, d, j, rfl⟩
  · rw [exec_atV] at h
    cases h
    exact .inl rfl
  · rw [exec_mkC] at h
    rcases cStep_sound_or_commit h with ⟨k, -, rfl⟩ | ⟨y, -, hm, -, rfl⟩
    · exact .inl rfl
    · by_cases hd : d.toM = true
      · exact .inr ⟨a, c, u, d, j, alu c s.d y, rfl, hd, hm hd, by simp [commit, hd]⟩
      · exact .inl (by simp [commit, hd])

/-- R26, R27: every instruction keeps the canonical form of the Memory Bank. -/
theorem exec_keeps_ram_wf {i : Instr} {s t : State} (h : exec i s = .next t) (hs : Memory.wf ramWords s.ram = true) :
    Memory.wf ramWords t.ram = true := by
  rcases exec_ram h with hram | ⟨a, c, u, d, j, out, -, -, ha, hram⟩ <;> rw [hram]
  · exact hs
  · exact Memory.wf_write out hs ha

/-- R91, R93: a Word that decodes to a C-instruction with dM = 1 has w[15] and w[3] set. -/
theorem bits_of_decodeWord_eq_mkC {w : Word} {a : Bool} {c : Ctrl} {u : BitVec 2} {d : Dest} {j : Jump}
    (h : decodeWord w = mkC a c u d j) (hd : d.toM = true) : w.getLsbD 15 = true ∧ w.getLsbD 3 = true := by
  cases hclass : w.getLsbD 15 with
  | false =>
    have := isC_mkC a c u d j
    rw [← h, decodeWord_of_not_class hclass] at this
    cases this
  | true =>
    have hword := congrArg (fun i => destOf (encode i)) h
    simp only [decodeWord_of_class hclass, encode_mkC, destOf_encodeC] at hword
    exact ⟨rfl, (congrArg Dest.toM hword).trans hd⟩

/-! ### What one step of the machine can do -/

/-- R64: one step takes the next event off the schedule, and is the engine's turn, the host's `step()` or an event that
executes no instruction. -/
theorem step_cases {s t : State} (h : step s = .next t) :
    ((s.schedule.head? = none ∨ s.schedule.head? = some .engine) ∧
      engineTurn (setSchedule s s.schedule.tail) = .next t) ∨
    (s.schedule.head? = some .step ∧ stepCommand (setSchedule s s.schedule.tail) = .next t) ∨
    ∃ e rest, s.schedule = e :: rest ∧ e ≠ .engine ∧ e ≠ .step ∧ applyEvent e (setSchedule s rest) = .next t := by
  cases hs : s.schedule with
  | nil =>
    rw [step_of_nil hs] at h
    have hself : setSchedule s [] = s := hs ▸ rfl
    exact .inl ⟨.inl rfl, hself.symm ▸ h⟩
  | cons e rest =>
    rw [step_of_cons hs] at h
    by_cases hengine : e = .engine
    · subst hengine
      exact .inl ⟨.inr rfl, h⟩
    · by_cases hstep : e = .step
      · subst hstep
        exact .inr (.inl ⟨rfl, h⟩)
      · exact .inr (.inr ⟨e, rest, rfl, hengine, hstep, h⟩)

/-- R342, R345: one step changes nothing but the schedule, executes ROM[PC] in a machine without a fault, or applies an event
that executes no instruction. -/
theorem step_instruction_or_event {s t : State} (h : step s = .next t) :
    t = setSchedule s s.schedule.tail ∨
    (∃ g, g ≤ s.grace ∧ s.fault = none ∧
      (s.schedule.head? = none ∨ s.schedule.head? = some .engine ∨ s.schedule.head? = some .step) ∧
      exec (decodeWord (fetch s)) (setGrace (setSchedule s s.schedule.tail) g) = .next t) ∨
    ∃ e rest, s.schedule = e :: rest ∧ e ≠ .engine ∧ e ≠ .step ∧ applyEvent e (setSchedule s rest) = .next t := by
  rcases step_cases h with ⟨hhead, hturn⟩ | ⟨hhead, hcommand⟩ | hother
  · rcases engineTurn_cases hturn with ⟨-, rfl⟩ | ⟨henabled, hexec⟩
    · exact .inl rfl
    · have hfault : s.fault = none := by
        simp only [continuousEnabled, Bool.and_eq_true, Option.isNone_iff_eq_none] at henabled
        exact henabled.1
      rw [spendGrace_eq] at hexec
      refine .inr (.inl ⟨_, ?_, hfault, hhead.imp_right .inl, hexec⟩)
      split <;> simp
  · rcases stepCommand_cases hcommand with ⟨-, rfl⟩ | ⟨-, hfault, hexec⟩
    · exact .inl rfl
    · exact .inr (.inl ⟨s.grace, Nat.le_refl _, hfault, .inr (.inr hhead), hexec⟩)
  · exact .inr (.inr hother)

end Sys2Proof.Machine

namespace Sys2Proof

open Sys2Proof.Machine

/-- The invariant does not speak of the schedule. -/
theorem Invariant.after_setSchedule {s : State} (hs : Invariant s) (es : List Event) : Invariant (setSchedule s es) :=
  ⟨hs.rom_wf, hs.ram_wf, hs.rate_pos, hs.grace_le, hs.fault_sound⟩

theorem Invariant.after_setGrace {s : State} (hs : Invariant s) {g : Nat} (hg : g ≤ s.grace) : Invariant (setGrace s g) :=
  ⟨hs.rom_wf, hs.ram_wf, hs.rate_pos, Nat.le_trans hg hs.grace_le, hs.fault_sound⟩

/-- Every instruction keeps the invariant. -/
theorem Invariant.after_exec {i : Instr} {s t : State} (hs : Invariant s) (h : exec i s = .next t) : Invariant t := by
  obtain ⟨hrom, -, hrate, hgrace, -, -⟩ := exec_keeps h
  exact ⟨hrom ▸ hs.rom_wf, exec_keeps_ram_wf h hs.ram_wf, hrate ▸ hs.rate_pos, hgrace ▸ hs.grace_le,
    exec_keeps_faultSound h hs.fault_sound⟩

/-- Every event that executes no instruction keeps the invariant. -/
theorem Invariant.after_otherEvent {e : Event} {s t : State} (hs : Invariant s) (hengine : e ≠ .engine) (hstep : e ≠ .step)
    (h : applyEvent e s = .next t) : Invariant t := by
  obtain ⟨hfault, -, hrom, hram, hrate, hgrace⟩ := otherEvent_keeps hengine hstep h
  constructor
  case rom_wf =>
    rcases hrom with hrom | ⟨file, image, -, -, himage, rfl⟩
    · exact hrom ▸ hs.rom_wf
    · exact loadImage_wf himage
  case ram_wf =>
    rcases hram with hram | ⟨-, v, -, rfl⟩ | ⟨-, -, rfl⟩
    · exact hram ▸ hs.ram_wf
    · exact Memory.wf_write v hs.ram_wf (by decide)
    · rw [resetMachine_eq]
      dsimp only
      split
      · exact Memory.wf_clear _ _ hs.ram_wf
      · exact hs.ram_wf
  case rate_pos =>
    rcases hrate with hrate | ⟨r, -, hr, hrate⟩
    · exact hrate ▸ hs.rate_pos
    · exact hrate ▸ hr
  case grace_le =>
    rcases hgrace with hgrace | hgrace
    · exact hgrace ▸ hs.grace_le
    · exact hgrace
  case fault_sound => exact hfault ▸ hs.fault_sound

/-- Settles O35: whichever of its three forms a step has, it keeps the invariant. -/
theorem stepKeepsTheInvariant : Obligations.StepKeepsTheInvariant := by
  intro s t hs h
  rcases step_instruction_or_event h with rfl | ⟨g, hg, -, -, hexec⟩ | ⟨e, rest, -, hengine, hstep, hevent⟩
  · exact hs.after_setSchedule _
  · exact ((hs.after_setSchedule s.schedule.tail).after_setGrace hg).after_exec hexec
  · exact (hs.after_setSchedule rest).after_otherEvent hengine hstep hevent

/-- Settles O30: the canonical form is unique. -/
theorem canonicalMemoriesAreEqualWhenTheyReadAlike : Obligations.CanonicalMemoriesAreEqualWhenTheyReadAlike :=
  fun _ _ _ h h' hread => Memory.eq_of_read_eq h h' hread

/-- Settles O31: of the forms of a step only a load writes the Instruction Store. -/
theorem romChangesOnlyByLoad : Obligations.RomChangesOnlyByLoad := by
  refine ⟨fun s t h hne => ?_, fun i s t h => (exec_keeps h).1⟩
  rcases step_instruction_or_event h with rfl | ⟨g, -, -, -, hexec⟩ | ⟨e, rest, hs, hengine, hstep, hevent⟩
  · exact absurd rfl hne
  · exact absurd (exec_keeps hexec).1 hne
  · obtain ⟨-, -, hrom, -⟩ := otherEvent_keeps hengine hstep hevent
    rcases hrom with hrom | ⟨file, image, rfl, hrun, himage, rfl⟩
    · exact absurd hrom hne
    · exact ⟨file, rest, image, hs, hrun, himage, rfl⟩

/-- R54, R56: only the address written can read another Word after a write. -/
theorem eq_of_read_write_ne {m : Memory} {addr written : Nat} {v : Word}
    (h : (m.write written v).read addr ≠ m.read addr) : addr = written :=
  Classical.byContradiction fun hne => h (Memory.read_write_other m v (Ne.symm hne))

/-- R39: only a screen word can read another Word after `reset()`, and only where the parameter says it clears the screen. -/
theorem onScreen_of_read_resetMachine_ne {s : State} {addr : Nat}
    (h : (resetMachine s).ram.read addr ≠ s.ram.read addr) :
    16384 ≤ addr ∧ addr < 24576 ∧ Config.resetClearsScreen = true := by
  rw [resetMachine_eq] at h
  cases hclears : Config.resetClearsScreen with
  | false => simp [hclears] at h
  | true =>
    simp only [hclears, if_true, Memory.read_clear] at h
    split at h
    · rename_i hrange
      exact ⟨hrange.1, hrange.2, rfl⟩
    · exact absurd rfl h

/-- Settles O32: the writer is the instruction at PC, a key event or `reset()`, by the form of the step. -/
theorem ramWriters : Obligations.RamWriters := by
  intro s t addr h hne
  rcases step_instruction_or_event h with rfl | ⟨g, -, hfault, hhead, hexec⟩ | ⟨e, rest, hs, hengine, hstep, hevent⟩
  · exact absurd rfl hne
  · rcases exec_ram hexec with hram | ⟨a, c, u, d, j, out, hi, hd, ha, hram⟩ <;> rw [hram] at hne
    · exact absurd rfl hne
    · obtain rfl : addr = uint s.a := eq_of_read_write_ne hne
      obtain ⟨hclass, hbit⟩ := bits_of_decodeWord_eq_mkC hi hd
      exact .inl ⟨rfl, ha, hfault, hclass, hbit, hhead⟩
  · obtain ⟨-, -, -, hram, -⟩ := otherEvent_keeps hengine hstep hevent
    rcases hram with hram | ⟨hrun, v, hkey, rfl⟩ | ⟨rfl, hrun, rfl⟩
    · exact absurd (congrArg (·.read addr) hram) hne
    · have hevent : isKeyEvent e = true := by
        rcases hkey with ⟨k, rfl, hk⟩ | ⟨rfl, -⟩
        · simp [isKeyEvent, hk]
        · rfl
      exact .inr (.inl ⟨eq_of_read_write_ne hne, hrun, e, rest, hs, hevent⟩)
    · obtain ⟨hlo, hhi, hclears⟩ := onScreen_of_read_resetMachine_ne hne
      exact .inr (.inr ⟨hlo, hhi, hrun, by rw [hs]; rfl, hclears⟩)

/-- Settles O36: the stores are empty, grace is 0, no fault is recorded and DEFAULT_RATE is at least 1. -/
theorem resetMeetsTheInvariant : Obligations.ResetMeetsTheInvariant where
  rom_wf := rfl
  ram_wf := rfl
  rate_pos := Nat.succ_pos Config.defaultRateLessOne
  grace_le := Nat.zero_le Config.pauseLag
  fault_sound := rfl

end Sys2Proof

/-! PROOFS of the statements of 20_memory.md: data addresses do not alias, and an instruction reads one cell of data. -/

namespace Sys2Proof.Machine

/-! ### What an instruction can see of a state -/

/-- Two states look alike to an instruction whose data address is `addr`: the same PC, A, D and fault record, and the same
Word at `addr`. Nothing is said of any other cell, nor of the rest of the state. -/
structure SameView (addr : Nat) (s s' : State) : Prop where
  pc : s'.pc = s.pc
  a : s'.a = s.a
  d : s'.d = s.d
  fault : s'.fault = s.fault
  cell : s'.ram.read addr = s.ram.read addr

/-- Both results are next states, and these look alike. -/
def SameViewNext (addr : Nat) (r r' : Result) : Prop :=
  ∃ t t', r = .next t ∧ r' = .next t' ∧ SameView addr t t'

theorem SameView.next {addr : Nat} {t t' : State} (h : SameView addr t t') : SameViewNext addr (.next t) (.next t') :=
  ⟨t, t', rfl, rfl, h⟩

/-- R130: the A-instruction reads PC only. -/
theorem SameView.execAtV {addr : Nat} {s s' : State} (h : SameView addr s s') (v : Word) :
    SameViewNext addr (exec (.atV v) s) (exec (.atV v) s') := by
  rw [exec_atV, exec_atV]
  refine SameView.next ⟨?_, rfl, h.d, h.fault, h.cell⟩
  exact congrArg nextIndex h.pc

/-- R301: the record of a fault holds PC_pre and A_pre, and no Word of data. -/
theorem SameView.raiseAddressFault {addr : Nat} {s s' : State} (h : SameView addr s s') (k : FaultKind) (w : Word) :
    SameViewNext addr (raiseAddressFault k w s) (raiseAddressFault k w s') := by
  rw [raiseAddressFault_eq, raiseAddressFault_eq]
  refine SameView.next ⟨h.pc, h.a, h.d, ?_, h.cell⟩
  simp only [setFault_fault, h.pc, h.a]

section OneCell

variable {s s' : State} (h : SameView (uint s.a) s s')
include h

/-- R141: the y input is A, or the Word of the one cell at uint(A_pre). -/
theorem SameView.operandY_eq (a : Bool) : operandY a s' = operandY a s := by
  simp only [operandY, memRead, h.a, h.cell]

variable (hs : Memory.wf ramWords s.ram = true) (hs' : Memory.wf ramWords s'.ram = true)
include hs hs'

/-- R54: after one Word is stored at uint(A_pre), or none, the cells there are alike again. -/
theorem SameView.storeDest_cell (d : Dest) (out : Word) :
    (storeDest d out s').ram.read (uint s.a) = (storeDest d out s).ram.read (uint s.a) := by
  rw [storeDest_ram, storeDest_ram, h.a]
  split
  · rw [Memory.read_write_self out hs, Memory.read_write_self out hs']
  · exact h.cell

/-- R153: a commit with one ALU output and one jump decision. -/
theorem SameView.commit (d : Dest) (out : Word) (take : Bool) :
    SameView (uint s.a) (commit d out take s) (commit d out take s') where
  pc := by simp only [Machine.commit, setPc_pc, targetIndex, h.a, h.pc]
  a := by simp only [Machine.commit, setPc_a, storeDest_a, h.a]
  d := by simp only [Machine.commit, setPc_d, storeDest_d, h.d]
  fault := h.fault
  cell := h.storeDest_cell hs hs' d out

/-- R302: the checks after the ALU test the same A, so both runs end at the same one of the three ends. -/
theorem SameView.finishC (w : Word) (d : Dest) (out : Word) (take : Bool) :
    SameViewNext (uint s.a) (finishC w d out take s) (finishC w d out take s') := by
  simp only [Machine.finishC, h.a]
  split
  · exact h.raiseAddressFault .ramWrite w
  · split
    · exact h.raiseAddressFault .jumpTarget w
    · exact (h.commit hs hs' d out take).next

/-- R140: the operands are the same, so both runs fault at the read or finish with the same ALU output. -/
theorem SameView.cStep (a : Bool) (c : Ctrl) (u : BitVec 2) (d : Dest) (j : Jump) :
    SameViewNext (uint s.a) (cStep a c u d j s) (cStep a c u d j s') := by
  simp only [Machine.cStep, operandX, h.operandY_eq, h.d]
  split
  · exact h.raiseAddressFault .ramRead _
  · exact h.finishC hs hs' _ d _ _

/-- R59: every instruction takes states that look alike at uint(A_pre) to next states that look alike there. -/
theorem SameView.exec (i : Instr) : SameViewNext (uint s.a) (exec i s) (exec i s') := by
  rcases atV_or_mkC i with ⟨v, rfl⟩ | ⟨a, c, u, d, j, rfl⟩
  · exact h.execAtV v
  · rw [exec_mkC, exec_mkC]
    exact h.cStep hs hs' a c u d j

end OneCell

end Sys2Proof.Machine

namespace Sys2Proof

open Sys2Proof.Machine

/-- Settles O29: a write is read back at its own address, also after a later write elsewhere, and the two stores are separate
fields of the state. -/
theorem dataAddressesDoNotAlias : Obligations.DataAddressesDoNotAlias := by
  refine ⟨fun m x v hm hx => ?_, fun s addr v store i => ?_⟩
  · have hself : (m.write x v).read x = v := Memory.read_write_self v hm
    exact ⟨hself, Memory.wf_write v hm hx, fun y hy => Memory.read_write_other m v hy.symm,
      fun y v' hy => (Memory.read_write_other (m.write x v) v' hy).trans hself⟩
  · rw [memWrite_rom, setRom_ram]
    exact ⟨rfl, rfl⟩

/-- Settles O23: the premises say that the two states look alike at uint(A), and every instruction keeps that. -/
theorem instructionReadsOnlyItsCell : Obligations.InstructionReadsOnlyItsCell := by
  intro i s s' hfault hfault' hs hs' hpc ha hd hcell
  have hview : SameView (uint s.a) s s' := ⟨hpc, ha, hd, hfault'.trans hfault.symm, hcell⟩
  obtain ⟨t, t', ht, ht', hnext⟩ := hview.exec hs hs' i
  exact ⟨t, t', ht, ht', hnext.pc, hnext.a, hnext.d, hnext.fault, hnext.cell⟩

end Sys2Proof

/-! PROOFS of the statements of 30_encoding.md: decode and encode, the unused bits, the disassembly and the assembled word. -/

namespace Sys2Proof

variable (a : Bool) (c : Ctrl) (u : BitVec 2) (d : Dest) (j : Jump)

/-! ### The class bit and the literal -/

/-- R96: the class bit splits the Words at 0x8000. -/
theorem class_iff_le_toNat (w : Word) : w.getLsbD 15 = true ↔ 0x8000 ≤ w.toNat := by
  rw [← BitVec.msb_eq_getLsbD_last w, BitVec.msb_eq_decide]
  exact decide_eq_true_iff

/-- R94: the literal of an A-instruction's Word is the Word. -/
theorem literalOf_of_not_class {w : Word} (h : w.getLsbD 15 = false) : literalOf w = w := by
  apply BitVec.eq_of_getLsbD_eq
  intro i hi
  rw [literalOf_getLsbD]
  rcases Nat.lt_or_ge i 15 with hlow | hhigh
  · simp [hlow]
  · obtain rfl : i = 15 := by omega
    rw [h]
    rfl

/-- R92: a Word with w[15] = 0 is the A-instruction whose literal is the Word. -/
theorem decodeWord_eq_atV {w : Word} (h : w.getLsbD 15 = false) : decodeWord w = .atV w := by
  rw [decodeWord_of_not_class h, literalOf_of_not_class h]

/-- R104: a Word is the literal of a well-formed `@v` exactly when its class bit is 0. -/
theorem wellFormed_atV_iff (v : Word) : (Instr.atV v).wellFormed = true ↔ v.getLsbD 15 = false := by
  rw [← Bool.not_eq_true, class_iff_le_toNat]
  simp only [Instr.wellFormed, literalEncodable, uint, decide_eq_true_eq]
  omega

/-! ### Decode and encode are inverse -/

/-- R93: the fields of a C-instruction's Word, w[14:13] included, put together again are the Word. -/
theorem encodeC_fields {w : Word} (h : w.getLsbD 15 = true) :
    encodeC (w.getLsbD 12) (ctrlOf w) (w.extractLsb' 13 2) (destOf w) (jumpOf w) = w := by
  apply BitVec.eq_of_getLsbD_eq
  intro i hi
  simp only [encodeC_getLsbD, ctrlBits, destBits, jumpBits, BitVec.getLsbD_or, bitAt_getLsbD, BitVec.getLsbD_shiftLeft,
    BitVec.getLsbD_setWidth, BitVec.getLsbD_extractLsb', ctrlOf, destOf, jumpOf]
  interval_cases i <;> simp [h]

/-- R93: a C-instruction's Word decodes to the row and the fields it was put together from. -/
theorem decodeWord_encodeC : decodeWord (encodeC a c u d j) = mkC a c u d j := by
  rw [decodeWord_of_class (class_encodeC a c u d j), a_encodeC, ctrlOf_encodeC, unused_encodeC, destOf_encodeC,
    jumpOf_encodeC]

theorem decodeWord_encode {i : Instr} (h : i.wellFormed = true) : decodeWord (encode i) = i := by
  rcases atV_or_mkC i with ⟨v, rfl⟩ | ⟨a, c, u, d, j, rfl⟩
  · exact decodeWord_eq_atV ((wellFormed_atV_iff v).1 h)
  · rw [encode_mkC, decodeWord_encodeC]

theorem encode_decodeWord (w : Word) : encode (decodeWord w) = w := by
  cases h : w.getLsbD 15 with
  | false => rw [decodeWord_eq_atV h]; rfl
  | true => rw [decodeWord_of_class h, encode_mkC, encodeC_fields h]

theorem wellFormed_decodeWord (w : Word) : (decodeWord w).wellFormed = true := by
  cases h : w.getLsbD 15 with
  | false => rw [decodeWord_eq_atV h, wellFormed_atV_iff, h]
  | true => rw [decodeWord_of_class h, wellFormed_mkC]

/-- R60: a Word's two bytes, put together low byte first, are the Word. -/
theorem wordOfBytes_of_word (w : Word) : wordOfBytes (w.extractLsb' 0 8) (w.extractLsb' 8 8) = w := by
  rw [wordOfBytes, BitVec.extractLsb'_append_extractLsb'_eq_extractLsb' (by rfl)]
  exact BitVec.extractLsb'_eq_self

/-- R90: the byte decoder takes one Word and leaves what follows it. -/
theorem decode_bytesOfWord_append (w : Word) (rest : List Byte) :
    decode (bytesOfWord w ++ rest) = .ok (decodeWord w, rest) :=
  congrArg (fun v => Except.ok (decodeWord v, rest)) (wordOfBytes_of_word w)

/-- Settles O1: the fields of an encoding are those it was put together from, and its bytes are read as its word. -/
theorem decodeOfEncodeIsIdentity : Obligations.DecodeOfEncodeIsIdentity := by
  intro i h
  refine ⟨decodeWord_encode h, fun rest => ?_⟩
  rw [decode_bytesOfWord_append, decodeWord_encode h]

/-- Settles O2: the fields of a word, put together again, are the word. -/
theorem encodeOfDecodeIsIdentity : Obligations.EncodeOfDecodeIsIdentity :=
  fun w => ⟨wellFormed_decodeWord w, encode_decodeWord w⟩

/-- Settles O5: the sample words, evaluated. -/
theorem decodeSampleWords : Obligations.DecodeSampleWords :=
  ⟨rfl, rfl, rfl, rfl, rfl, rfl, rfl⟩

end Sys2Proof

namespace Sys2Proof.Machine

/-! ### Executing a decoded Word -/

/-- R300: executing an instruction answers a next state, whatever the state. -/
theorem exec_answers_next (i : Instr) (s : State) : ∃ t, exec i s = .next t := by
  rcases atV_or_mkC i with ⟨v, rfl⟩ | ⟨a, c, u, d, j, rfl⟩
  · exact ⟨_, exec_atV v s⟩
  · rw [exec_mkC]
    rcases cStep_next a c u d j s with ⟨k, h⟩ | ⟨out, take, h⟩
    · exact ⟨_, h⟩
    · exact ⟨_, h⟩

/-- Both results are next states, and these are equal or differ only in the word of the fault record just raised: `w` in
the first, `w'` in the second. -/
def SameButFaultWord (w w' : Word) (r r' : Result) : Prop :=
  ∃ t t', r = .next t ∧ r' = .next t' ∧
    (t' = t ∨ ∃ f, t.fault = some f ∧ f.word = w ∧ t' = { t with fault := some { f with word := w' } })

variable (w w' : Word)

theorem SameButFaultWord.raiseAddressFault (k : FaultKind) (s : State) :
    SameButFaultWord w w' (raiseAddressFault k w s) (raiseAddressFault k w' s) :=
  ⟨_, _, rfl, rfl, .inr ⟨⟨k, s.pc, w, s.a⟩, rfl, rfl, rfl⟩⟩

/-- R140: the checks after the ALU do not read the instruction's word. -/
theorem SameButFaultWord.finishC (d : Dest) (out : Word) (take : Bool) (s : State) :
    SameButFaultWord w w' (finishC w d out take s) (finishC w' d out take s) := by
  unfold Machine.finishC
  split
  · exact raiseAddressFault w w' .ramWrite s
  · split
    · exact raiseAddressFault w w' .jumpTarget s
    · exact ⟨_, _, rfl, rfl, .inl rfl⟩

/-- R97: the step of a C-instruction uses w[14:13] for nothing but the word it records. -/
theorem SameButFaultWord.cStep (a : Bool) (c : Ctrl) (u u' : BitVec 2) (d : Dest) (j : Jump) (s : State) :
    SameButFaultWord (encodeC a c u d j) (encodeC a c u' d j) (cStep a c u d j s) (cStep a c u' d j s) := by
  unfold Machine.cStep
  split
  · exact raiseAddressFault _ _ .ramRead s
  · exact finishC _ _ d _ _ s

variable {w w'}

/-- R97: Words that agree under mask 0x9FFF agree at every bit but w[14:13]. -/
theorem getLsbD_eq_of_mask (h : w &&& 0x9FFF#16 = w' &&& 0x9FFF#16) {i : Nat} (hi : (0x9FFF#16).getLsbD i = true) :
    w.getLsbD i = w'.getLsbD i := by
  simpa [BitVec.getLsbD_and, hi] using congrArg (·.getLsbD i) h

/-- R97: a Word that agrees with a C-instruction's Word under mask 0x9FFF is the same C-instruction but for w[14:13]. -/
theorem eq_encodeC_of_mask (hclass : w.getLsbD 15 = true) (h : w &&& 0x9FFF#16 = w' &&& 0x9FFF#16) :
    w' = encodeC (w.getLsbD 12) (ctrlOf w) (w'.extractLsb' 13 2) (destOf w) (jumpOf w) := by
  have hbit : ∀ i, (0x9FFF#16).getLsbD i = true → w.getLsbD i = w'.getLsbD i := fun i => getLsbD_eq_of_mask h
  have ha : w.getLsbD 12 = w'.getLsbD 12 := hbit 12 rfl
  have hc : ctrlOf w = ctrlOf w' := by
    simp only [ctrlOf, hbit 11 rfl, hbit 10 rfl, hbit 9 rfl, hbit 8 rfl, hbit 7 rfl, hbit 6 rfl]
  have hd : destOf w = destOf w' := by simp only [destOf, hbit 5 rfl, hbit 4 rfl, hbit 3 rfl]
  have hj : jumpOf w = jumpOf w' := by simp only [jumpOf, hbit 2 rfl, hbit 1 rfl, hbit 0 rfl]
  rw [ha, hc, hd, hj]
  exact (encodeC_fields ((hbit 15 rfl).symm.trans hclass)).symm

end Sys2Proof.Machine

namespace Sys2Proof

open Sys2Proof.Machine

/-- Settles O3: the class bit splits the words at 0x8000, and each class decodes by its own format. -/
theorem decodeTotalByClassBit : Obligations.DecodeTotalByClassBit := by
  refine ⟨fun w hw => ?_, fun w hw => ?_, fun a c u d j => ?_, fun w s => exec_answers_next (decodeWord w) s⟩
  · have hclass : w.getLsbD 15 = false := by
      rw [← Bool.not_eq_true, class_iff_le_toNat]
      omega
    exact ⟨hclass, decodeWord_eq_atV hclass⟩
  · have hclass := (class_iff_le_toNat w).2 hw
    exact ⟨hclass, _, _, _, _, _, decodeWord_of_class hclass⟩
  · exact ⟨encodeC a c u d j, (class_iff_le_toNat _).1 (class_encodeC a c u d j), decodeWord_encodeC a c u d j⟩

/-- Settles O4: the two words are one C-instruction but for w[14:13], which its step only records. -/
theorem unusedBitsAreIgnored : Obligations.UnusedBitsAreIgnored := by
  intro w w' s hclass hmask
  have hw := encodeC_fields hclass
  have hw' := eq_encodeC_of_mask hclass hmask
  have hsame := SameButFaultWord.cStep (w.getLsbD 12) (ctrlOf w) (w.extractLsb' 13 2) (w'.extractLsb' 13 2) (destOf w)
    (jumpOf w) s
  rw [← exec_mkC, ← exec_mkC, ← decodeWord_encodeC, ← decodeWord_encodeC, hw, ← hw'] at hsame
  exact hsame

/-! ### The assembled Word -/

theorem ctrlBits_eq_compBits (c : Ctrl) : ctrlBits c = (compBits c).setWidth 16 <<< 6 := by
  obtain ⟨zx, nx, zy, ny, f, no⟩ := c
  revert zx nx zy ny f no
  decide

theorem destBits_eq_setWidth (d : Dest) :
    destBits d = (BitVec.ofBool d.toA ++ BitVec.ofBool d.toD ++ BitVec.ofBool d.toM).setWidth 16 <<< 3 := by
  obtain ⟨toA, toD, toM⟩ := d
  revert toA toD toM
  decide

theorem jumpBits_eq_setWidth (j : Jump) :
    jumpBits j = (BitVec.ofBool j.lt ++ BitVec.ofBool j.eq ++ BitVec.ofBool j.gt).setWidth 16 := by
  obtain ⟨lt, eq, gt⟩ := j
  revert lt eq gt
  decide

theorem bitAt_twelve (a : Bool) : bitAt 12 a = (if a then 1#16 else 0#16) <<< 12 := by
  revert a
  decide

/-- R104: the assembled word of a C-instruction has w[14:13] = 11, whatever they were. -/
theorem encodeC_or_unused (a : Bool) (c : Ctrl) (u : BitVec 2) (d : Dest) (j : Jump) :
    encodeC a c u d j ||| 0x6000#16 = 0xE000#16 ||| bitAt 12 a ||| ctrlBits c ||| destBits d ||| jumpBits j := by
  have htop : bitAt 15 true ||| u.setWidth 16 <<< 13 ||| 0x6000#16 = 0xE000#16 := by
    revert u
    decide
  rw [← htop, encodeC]
  ac_rfl

theorem assembledWord_mkC (a : Bool) (c : Ctrl) (u : BitVec 2) (d : Dest) (j : Jump) :
    assembledWord (mkC a c u d j) =
      some (0xE000#16 ||| bitAt 12 a ||| ctrlBits c ||| destBits d ||| jumpBits j) := by
  simp only [assembledWord, wellFormed_mkC, isC_mkC, encode_mkC, encodeC_or_unused, if_true]

/-- Settles O7: each field of the encoding is the shifted field of R104's formula, and w[14:13] become 11. -/
theorem assemblyFormula : Obligations.AssemblyFormula := by
  refine ⟨fun a c u d j => ?_, fun v => ?_⟩
  · rw [assembledWord_mkC, ctrlBits_eq_compBits, destBits_eq_setWidth, jumpBits_eq_setWidth, bitAt_twelve]
  · simp [assembledWord, Instr.wellFormed, literalEncodable, Instr.isC, encode]

end Sys2Proof

namespace Sys2Proof.Machine

/-! ### The text of a literal -/

/-- The value of a decimal digit's character. -/
def digitValue (ch : Char) : Nat := ch.toNat - 48

theorem digitValue_digitChar {n : Nat} (h : n < 10) : digitValue (digitChar n) = n := by
  interval_cases n <;> rfl

/-- R99: as many digits as a number has give the number back. -/
theorem ofDigits_digitsFrom {fuel n : Nat} (h : n < 10 ^ fuel) :
    Nat.ofDigits 10 ((digitsFrom fuel n).map digitValue) = n := by
  induction fuel generalizing n with
  | zero =>
    obtain rfl : n = 0 := by simpa using h
    rfl
  | succ fuel ih =>
    have hrest : n / 10 < 10 ^ fuel := by omega
    have htail : Nat.ofDigits 10 ((if n / 10 = 0 then [] else digitsFrom fuel (n / 10)).map digitValue) = n / 10 := by
      split
      next hzero => simp [hzero]
      next => exact ih hrest
    rw [digitsFrom, List.map_cons, Nat.ofDigits_cons, htail, digitValue_digitChar (Nat.mod_lt n (by decide))]
    exact Nat.mod_add_div n 10

/-- R99: no two literals have the same text. -/
theorem decimalText_inj {m n : Nat} (hm : m < 10 ^ 5) (hn : n < 10 ^ 5) (h : decimalText m = decimalText n) : m = n := by
  rw [← ofDigits_digitsFrom hm, ← ofDigits_digitsFrom hn, List.reverse_injective h]

/-! ### The text of a comp field -/

/-- R102: the 28 canonical (a, comp) pairs with their mnemonics. -/
def canonicalRows : List (Bool × BitVec 6 × List Char) :=
  canonicalA.map (fun row => (false, row.1, row.2.toList)) ++ canonicalM.map (fun row => (true, row.1, row.2.toList))

theorem canonicalRows_names_nodup : (canonicalRows.map (fun row => row.2.2)).Nodup := by decide

/-- R102, R103: a pair renders with its canonical mnemonic or in the raw form. -/
theorem compText_cases (a : Bool) (c : Ctrl) :
    (a, compBits c, compText a c) ∈ canonicalRows ∨ compText a c = rawText a c := by
  unfold compText
  split
  next name hname =>
    obtain ⟨before, after, hrows, -⟩ := List.lookup_eq_some_iff.1 hname
    have hmem : (compBits c, name) ∈ if a then canonicalM else canonicalA := by simp [hrows]
    cases a with
    | false => exact .inl (List.mem_append_left _ (List.mem_map_of_mem hmem))
    | true => exact .inl (List.mem_append_right _ (List.mem_map_of_mem hmem))
  next => exact .inr rfl

/-- R93: the comp field determines the six control bits. -/
theorem compBits_inj {c c' : Ctrl} (h : compBits c = compBits c') : c = c' := by
  have hword : ∀ d j, encodeC false c 0 d j = encodeC false c' 0 d j := fun d j => by
    simp only [encodeC, ctrlBits_eq_compBits, h]
  have hctrl := congrArg ctrlOf (hword ⟨false, false, false⟩ ⟨false, false, false⟩)
  rwa [ctrlOf_encodeC, ctrlOf_encodeC] at hctrl

theorem bitChar_inj {b b' : Bool} (h : bitChar b = bitChar b') : b = b' := by
  revert b b'
  decide

theorem rawText_inj {a a' : Bool} {c c' : Ctrl} (h : rawText a c = rawText a' c') : a = a' ∧ c = c' := by
  obtain ⟨zx, nx, zy, ny, f, no⟩ := c
  obtain ⟨zx', nx', zy', ny', f', no'⟩ := c'
  simp only [rawText, List.cons.injEq, true_and, and_true] at h
  obtain ⟨ha, hzx, hnx, hzy, hny, hf, hno⟩ := h
  simp only [bitChar_inj ha, bitChar_inj hzx, bitChar_inj hnx, bitChar_inj hzy, bitChar_inj hny, bitChar_inj hf,
    bitChar_inj hno, and_self]

/-- R103: no canonical mnemonic starts as the raw form does. -/
theorem canonicalRows_ne_rawText {row : Bool × BitVec 6 × List Char} (h : row ∈ canonicalRows) (a : Bool) (c : Ctrl) :
    row.2.2 ≠ rawText a c := by
  have hhead : ∀ row ∈ canonicalRows, row.2.2.head? ≠ some '#' := by decide
  exact fun heq => hhead row h (by rw [heq]; rfl)

/-- R103: no two (a, comp) pairs have the same text. -/
theorem compText_inj {a a' : Bool} {c c' : Ctrl} (h : compText a c = compText a' c') : a = a' ∧ c = c' := by
  rcases compText_cases a c with hrow | hraw <;> rcases compText_cases a' c' with hrow' | hraw'
  · have heq := List.inj_on_of_nodup_map canonicalRows_names_nodup hrow hrow' h
    simp only [Prod.mk.injEq] at heq
    exact ⟨heq.1, compBits_inj heq.2.1⟩
  · exact absurd (h.trans hraw') (canonicalRows_ne_rawText hrow a' c')
  · exact absurd (h.symm.trans hraw) (canonicalRows_ne_rawText hrow' a c)
  · exact rawText_inj (hraw.symm.trans (h.trans hraw'))

/-- R99: the text of a comp field holds none of the characters that part the fields of a text. -/
theorem separators_not_mem_compText (a : Bool) (c : Ctrl) :
    '@' ∉ compText a c ∧ '=' ∉ compText a c ∧ ';' ∉ compText a c := by
  rcases compText_cases a c with hrow | hraw
  · have hnames : ∀ row ∈ canonicalRows, '@' ∉ row.2.2 ∧ '=' ∉ row.2.2 ∧ ';' ∉ row.2.2 := by decide
    exact hnames _ hrow
  · have hbit : ∀ b, '@' ≠ bitChar b ∧ '=' ≠ bitChar b ∧ ';' ≠ bitChar b := by decide
    simp [hraw, rawText, hbit]

/-! ### The text of a C-instruction -/

/-- Two texts cut at the first `sep` are equal only part by part. -/
theorem append_inj_of_separator {α : Type} [DecidableEq α] {sep : α} {x x' y y' : List α}
    (hx : sep ∉ x) (hx' : sep ∉ x') (hy : y.takeWhile (· != sep) = []) (hy' : y'.takeWhile (· != sep) = [])
    (h : x ++ y = x' ++ y') : x = x' ∧ y = y' := by
  have hbefore : ∀ {z : List α}, sep ∉ z → ∀ ch ∈ z, (ch != sep) = true := fun hz ch hch =>
    bne_iff_ne.2 (ne_of_mem_of_not_mem hch hz)
  have hcut := congrArg (List.takeWhile (· != sep)) h
  rw [List.takeWhile_append_of_pos (hbefore hx), List.takeWhile_append_of_pos (hbefore hx'), hy, hy', List.append_nil,
    List.append_nil] at hcut
  subst hcut
  exact ⟨rfl, List.append_cancel_left h⟩

theorem destText_inj {d d' : Dest} (h : destText d = destText d') : d = d' := by
  obtain ⟨toA, toD, toM⟩ := d
  obtain ⟨toA', toD', toM'⟩ := d'
  revert toA toD toM toA' toD' toM'
  decide

theorem jumpText_inj {j j' : Jump} (h : jumpText j = jumpText j') : j = j' := by
  obtain ⟨lt, eq, gt⟩ := j
  obtain ⟨lt', eq', gt'⟩ := j'
  revert lt eq gt lt' eq' gt'
  decide

/-- R99: a dest text is empty, or ends in the one `=` of the whole text. -/
theorem takeWhile_reverse_destText (d : Dest) : (destText d).reverse.takeWhile (· != '=') = [] := by
  obtain ⟨toA, toD, toM⟩ := d
  revert toA toD toM
  decide

theorem separators_not_mem_destText (d : Dest) : '@' ∉ destText d ∧ ';' ∉ destText d := by
  obtain ⟨toA, toD, toM⟩ := d
  revert toA toD toM
  decide

/-- R99: a jump text is empty, or starts with the one `;` of the whole text. -/
theorem takeWhile_jumpText (j : Jump) : (jumpText j).takeWhile (· != ';') = [] := by
  obtain ⟨lt, eq, gt⟩ := j
  revert lt eq gt
  decide

theorem at_not_mem_jumpText (j : Jump) : '@' ∉ jumpText j := by
  obtain ⟨lt, eq, gt⟩ := j
  revert lt eq gt
  decide

/-- R99, R103: no two C-instructions that differ in a, comp, dest or jump have the same text. -/
theorem cText_inj {a a' : Bool} {c c' : Ctrl} {d d' : Dest} {j j' : Jump} (h : cText a c d j = cText a' c' d' j') :
    a = a' ∧ c = c' ∧ d = d' ∧ j = j' := by
  have hsemi : ∀ a c d, ';' ∉ destText d ++ compText a c := fun a c d => by
    simp [separators_not_mem_destText, separators_not_mem_compText]
  have heq : ∀ a c, '=' ∉ (compText a c).reverse := fun a c => by simp [separators_not_mem_compText]
  obtain ⟨hfront, hjump⟩ :=
    append_inj_of_separator (hsemi a c d) (hsemi a' c' d') (takeWhile_jumpText j) (takeWhile_jumpText j') h
  have hback := congrArg List.reverse hfront
  rw [List.reverse_append, List.reverse_append] at hback
  obtain ⟨hcomp, hdest⟩ := append_inj_of_separator (heq a c) (heq a' c') (takeWhile_reverse_destText d)
    (takeWhile_reverse_destText d') hback
  obtain ⟨ha, hc⟩ := compText_inj (List.reverse_injective hcomp)
  exact ⟨ha, hc, destText_inj (List.reverse_injective hdest), jumpText_inj hjump⟩

theorem at_not_mem_cText (a : Bool) (c : Ctrl) (d : Dest) (j : Jump) : '@' ∉ cText a c d j := by
  simp [cText, separators_not_mem_destText, separators_not_mem_compText, at_not_mem_jumpText]

/-! ### The text of a Word -/

theorem disassemble_of_class {w : Word} (h : w.getLsbD 15 = true) :
    disassemble w = String.ofList (cText (w.getLsbD 12) (ctrlOf w) (destOf w) (jumpOf w)) :=
  if_pos h

theorem disassemble_of_not_class {w : Word} (h : w.getLsbD 15 = false) :
    disassemble w = String.ofList ('@' :: decimalText (uint w)) := by
  simp only [disassemble, decodeFields, h, literalOf_of_not_class h, Bool.false_eq_true, if_false]

/-- R99: exactly the texts of A-instructions hold an `@`. -/
theorem at_mem_disassemble_iff (w : Word) : '@' ∈ (disassemble w).toList ↔ w.getLsbD 15 = false := by
  cases h : w.getLsbD 15 with
  | false => simp [disassemble_of_not_class h]
  | true => simp [disassemble_of_class h, at_not_mem_cText]

/-- R99: an A-instruction's text gives its literal back. -/
theorem eq_of_disassemble_of_not_class {w w' : Word} (hclass : w.getLsbD 15 = false) (hclass' : w'.getLsbD 15 = false)
    (h : disassemble w = disassemble w') : w = w' := by
  rw [disassemble_of_not_class hclass, disassemble_of_not_class hclass'] at h
  have htext := (List.cons.inj (String.ofList_injective h)).2
  have hbound : ∀ v : Word, uint v < 10 ^ 5 := fun v => Nat.lt_trans v.isLt (by decide)
  exact BitVec.eq_of_toNat_eq (decimalText_inj (hbound w) (hbound w') htext)

/-- R103, R104: a C-instruction's text gives its assembled word back. -/
theorem assembledWord_eq_of_disassemble_of_class {w w' : Word} (hclass : w.getLsbD 15 = true)
    (hclass' : w'.getLsbD 15 = true) (h : disassemble w = disassemble w') :
    assembledWord (decodeWord w) = assembledWord (decodeWord w') := by
  rw [disassemble_of_class hclass, disassemble_of_class hclass'] at h
  obtain ⟨ha, hc, hd, hj⟩ := cText_inj (String.ofList_injective h)
  rw [decodeWord_of_class hclass, decodeWord_of_class hclass', assembledWord_mkC, assembledWord_mkC, ha, hc, hd, hj]

end Sys2Proof.Machine

namespace Sys2Proof

open Sys2Proof.Machine

/-- Settles O6: the `@` tells the class, and within a class the text gives the literal or the four fields back. -/
theorem disassemblyIsInjective : Obligations.DisassemblyIsInjective := by
  intro w w' h
  have hat : w.getLsbD 15 = false ↔ w'.getLsbD 15 = false := by
    rw [← at_mem_disassemble_iff, ← at_mem_disassemble_iff, h]
  cases hclass : w.getLsbD 15 with
  | false => rw [eq_of_disassemble_of_not_class hclass (hat.1 hclass) h]
  | true =>
    have hclass' : w'.getLsbD 15 = true := by
      rw [← Bool.not_eq_false, ← hat, hclass]
      decide
    exact assembledWord_eq_of_disassemble_of_class hclass hclass' h

end Sys2Proof

/-! PROOFS of the statements of 40_a_instruction.md: the A-instruction, and that no C-instruction writes A from its bits. -/

namespace Sys2Proof

/-! ### The words of the A-instruction -/

/-- R91: the decoder tells the class by w[15] alone. -/
theorem isC_decodeWord (w : Word) : (decodeWord w).isC = w.getLsbD 15 := by
  cases h : w.getLsbD 15 with
  | false => rw [decodeWord_eq_atV h]; rfl
  | true => rw [decodeWord_of_class h, isC_mkC]

theorem and_classMask_eq_zero_iff (w : Word) : w &&& 0x8000#16 = 0 ↔ w.getLsbD 15 = false := by
  rw [show 0x8000#16 = BitVec.twoPow 16 15 from rfl, BitVec.and_twoPow]
  cases w.getLsbD 15 <;> decide

/-- R94: the words of the A-instructions are those with w[15] = 0, and their literals are at most 32767. -/
theorem exists_decodeWord_eq_atV_iff (w : Word) :
    (∃ v, uint v ≤ 32767 ∧ decodeWord w = .atV v) ↔ w.getLsbD 15 = false := by
  constructor
  · rintro ⟨v, -, hdecode⟩
    rw [← isC_decodeWord, hdecode]
    rfl
  · intro hclass
    have hwf := (wellFormed_atV_iff w).2 hclass
    exact ⟨w, of_decide_eq_true hwf, decodeWord_eq_atV hclass⟩

end Sys2Proof

namespace Sys2Proof.Machine

/-! ### The next index, the y operand and the commit -/

/-- R154: the index of the next instruction wraps from 32767 to 0. -/
theorem nextIndex_eq_ofNat (pc : RomIndex) : nextIndex pc = BitVec.ofNat 15 ((pc.toNat + 1) % 32768) :=
  BitVec.eq_of_toNat_eq (by simp [nextIndex])

/-- R141: the y input of a C-instruction whose read is in range. -/
theorem yOf_eq_of_operandY {a : Bool} {s : State} {y : Word} (h : operandY a s = some y) : yOf a s = y := by
  cases a with
  | false => exact Option.some.inj h
  | true =>
    cases hvalid : ramValid s.a with
    | false => simp [operandY_true_of_invalid hvalid] at h
    | true => exact Option.some.inj ((operandY_true_of_valid hvalid).symm.trans h)

@[simp] theorem commit_a (d : Dest) (out : Word) (take : Bool) (s : State) :
    (commit d out take s).a = if d.toA then out else s.a := rfl

end Sys2Proof.Machine

namespace Sys2Proof

open Sys2Proof.Machine

/-- Settles O9: a C-instruction leaves A to its commit, which has only `out` to store there, or raises a fault, which leaves A
as it was. -/
theorem literalNeverReachesAFromAC : Obligations.LiteralNeverReachesAFromAC := by
  intro w s hclass _
  obtain ⟨t, hexec⟩ := exec_answers_next (decodeWord w) s
  have hstep := hexec
  rw [decodeWord_of_class hclass, exec_mkC] at hstep
  have hdA : (destOf w).toA = w.getLsbD 5 := rfl
  refine ⟨t, hexec, ?_⟩
  rcases cStep_sound_or_commit hstep with ⟨k, -, rfl⟩ | ⟨y, hy, -, -, rfl⟩
  · exact ⟨fun _ => rfl, fun _ hnone => absurd hnone (Option.some_ne_none _)⟩
  · rw [commit_a, hdA, yOf_eq_of_operandY hy]
    exact ⟨fun hbit => if_neg (Bool.eq_false_iff.1 hbit), fun hbit _ => if_pos hbit⟩

/-- Settles O8: the literal of a word with w[15] = 0 is the word, and its instruction writes A and PC only. -/
theorem aInstructionLoadsItsLiteral : Obligations.AInstructionLoadsItsLiteral := by
  refine ⟨fun v hv => ?_, fun w => ?_⟩
  · have hwf : (Instr.atV v).wellFormed = true := decide_eq_true hv
    refine ⟨(wellFormed_atV_iff v).1 hwf, decodeWord_encode hwf, fun s => ?_⟩
    rw [exec_atV, nextIndex_eq_ofNat]
    rfl
  · rw [and_classMask_eq_zero_iff, exists_decodeWord_eq_atV_iff]

end Sys2Proof

/-! PROOFS of the statements of 41_c_instruction.md: the whole step of a C-instruction, its frame and its jumps. -/

namespace Sys2Proof.Machine

/-! ### The step of a C-instruction as the rules word it -/

/-- R52: the addresses at which an M access faults. -/
theorem ramValid_eq_false_iff (addr : Word) : ramValid addr = false ↔ 24577 ≤ uint addr := by
  simp [ramValid]

/-- R154: the addresses at which a jump faults. -/
theorem jumpValid_eq_false_iff (addr : Word) : jumpValid addr = false ↔ 32768 ≤ uint addr := by
  simp [jumpValid]

/-- R153, R154: the state a C-instruction commits. -/
theorem commit_eq_afterC (d : Dest) (j : Jump) (out : Word) (s : State) :
    commit d out (jumpTaken j out) s = afterC d j out s := by
  have htarget : targetIndex (jumpTaken j out) s =
      if Takes j out then BitVec.ofNat 15 (uint s.a) else BitVec.ofNat 15 ((s.pc.toNat + 1) % 32768) := by
    simp only [targetIndex, jumpTaken_iff, nextIndex_eq_ofNat]
    rfl
  rw [commit, htarget]
  rfl

/-- R140, R302: the checks after the ALU, in their order, and the commit. -/
theorem finishC_eq (w : Word) (d : Dest) (j : Jump) (out : Word) (s : State) :
    finishC w d out (jumpTaken j out) s =
      if d.toM = true ∧ 24577 ≤ uint s.a then .next (afterFault .ramWrite w s)
      else if Takes j out ∧ 32768 ≤ uint s.a then .next (afterFault .jumpTarget w s)
      else .next (afterC d j out s) := by
  rcases finishC_cases w d out (jumpTaken j out) s with ⟨hd, hv, h⟩ | ⟨hd, ht, hv, h⟩ | ⟨hd, ht, h⟩ <;> rw [h]
  · rw [if_pos ⟨hd, (ramValid_eq_false_iff _).1 hv⟩]
    rfl
  · rw [if_neg, if_pos ⟨(jumpTaken_iff j out).1 ht, (jumpValid_eq_false_iff _).1 hv⟩]
    · rfl
    · rintro ⟨hm, hge⟩
      exact Nat.not_lt.2 hge ((ramValid_iff _).1 (hd hm))
  · rw [if_neg, if_neg, commit_eq_afterC]
    · rintro ⟨htakes, hge⟩
      exact Nat.not_lt.2 hge ((jumpValid_iff _).1 (ht ((jumpTaken_iff j out).2 htakes)))
    · rintro ⟨hm, hge⟩
      exact Nat.not_lt.2 hge ((ramValid_iff _).1 (hd hm))

variable (a : Bool) (c : Ctrl) (u : BitVec 2) (d : Dest) (j : Jump) (s : State)

/-- R140: the step of every C row in every state, over the ALU's one output. -/
theorem exec_mkC_eq :
    exec (mkC a c u d j) s =
      if a = true ∧ 24577 ≤ uint s.a then .next (afterFault .ramRead (encode (mkC a c u d j)) s)
      else if d.toM = true ∧ 24577 ≤ uint s.a then .next (afterFault .ramWrite (encode (mkC a c u d j)) s)
      else if Takes j (alu c s.d (yOf a s)) ∧ 32768 ≤ uint s.a then
        .next (afterFault .jumpTarget (encode (mkC a c u d j)) s)
      else .next (afterC d j (alu c s.d (yOf a s)) s) := by
  rw [exec_mkC, encode_mkC]
  rcases cStep_cases a c u d j s with ⟨ha, hv, h⟩ | ⟨y, hy, h⟩
  · rw [h, if_pos ⟨ha, (ramValid_eq_false_iff _).1 hv⟩]
    rfl
  · have hread : ¬ (a = true ∧ 24577 ≤ uint s.a) := by
      rintro ⟨rfl, hge⟩
      simp [operandY_true_of_invalid ((ramValid_eq_false_iff _).2 hge)] at hy
    rw [h, finishC_eq, yOf_eq_of_operandY hy, if_neg hread]

variable {a c u d j s}

/-- R302: where the M accesses are in range, the jump's target alone decides between a fault and the commit. -/
theorem exec_mkC_of_access_inRange (haccess : (a = true ∨ d.toM = true) → uint s.a < 24577) :
    exec (mkC a c u d j) s =
      if Takes j (alu c s.d (yOf a s)) ∧ 32768 ≤ uint s.a then
        .next (afterFault .jumpTarget (encode (mkC a c u d j)) s)
      else .next (afterC d j (alu c s.d (yOf a s)) s) := by
  rw [exec_mkC_eq, if_neg, if_neg]
  · exact fun ⟨hd, hge⟩ => Nat.not_lt.2 hge (haccess (.inr hd))
  · exact fun ⟨ha, hge⟩ => Nat.not_lt.2 hge (haccess (.inl ha))

/-- R140: where no check fires, the instruction commits. -/
theorem exec_mkC_of_runsClean (h : RunsClean a d j (alu c s.d (yOf a s)) s) :
    exec (mkC a c u d j) s = .next (afterC d j (alu c s.d (yOf a s)) s) := by
  obtain ⟨haccess, hjump⟩ := h
  rw [exec_mkC_of_access_inRange haccess, if_neg fun ⟨htakes, hge⟩ => Nat.not_lt.2 hge (hjump htakes)]

/-! ### The next PC -/

/-- R154: a taken jump goes to uint(A_pre). -/
theorem afterC_pc_of_takes {out : Word} (htakes : Takes j out) (ha : uint s.a < 32768) :
    (afterC d j out s).pc.toNat = uint s.a := by
  simp only [afterC, if_pos htakes, BitVec.toNat_ofNat]
  exact Nat.mod_eq_of_lt ha

/-- R154: without a taken jump the next instruction follows. -/
theorem afterC_pc_of_not_takes {out : Word} (h : ¬ Takes j out) :
    (afterC d j out s).pc = nextIndex s.pc := by
  simp only [afterC, if_neg h, nextIndex_eq_ofNat]

end Sys2Proof.Machine

namespace Sys2Proof

open Sys2Proof.Machine

/-! ### The jump field -/

/-- R93, 90_conflicts.md C1: the three bits of a jump value are its jLT, jEQ and jGT, jLT first. -/
theorem jumpBits_of_getLsbD (bits : BitVec 3) : JumpBits bits ⟨bits.getLsbD 2, bits.getLsbD 1, bits.getLsbD 0⟩ := by
  intro w
  have hfield : jumpOf w =
      ⟨(w.extractLsb' 0 3).getLsbD 2, (w.extractLsb' 0 3).getLsbD 1, (w.extractLsb' 0 3).getLsbD 0⟩ := by
    simp [jumpOf]
  rw [hfield]
  generalize w.extractLsb' 0 3 = x
  revert x bits
  decide

theorem sint_eq_zero_iff (out : Word) : sint out = 0 ↔ out = 0 := by
  rw [← BitVec.toInt_inj]
  rfl

/-- R150: the three tests as comparisons of sint(out) with 0. -/
theorem takes_iff_sint (j : Jump) (out : Word) :
    Takes j out ↔
      (j.lt = true ∧ sint out < 0) ∨ (j.eq = true ∧ sint out = 0) ∨ (j.gt = true ∧ 0 < sint out) := by
  rw [Takes, sint_eq_zero_iff]

/-- R154: a condition that makes the test of R150 succeed makes the instruction jump, or fault. -/
theorem jumpTaken_of_takes {j : Jump} {condition : Word → Prop} (h : ∀ out, condition out → Takes j out) :
    JumpTaken j condition where
  taken _ _ _ _ _ haccess hcond ha :=
    ⟨_, exec_mkC_of_runsClean ⟨haccess, fun _ => ha⟩, afterC_pc_of_takes (h _ hcond) ha, rfl⟩
  exception _ _ _ _ _ haccess hcond hge :=
    (exec_mkC_of_access_inRange haccess).trans (if_pos ⟨h _ hcond, hge⟩)

/-- R154: a condition that the test of R150 implies keeps the instruction from jumping where it does not hold. -/
theorem jumpNotTaken_of_takes {j : Jump} {condition : Word → Prop} (h : ∀ out, Takes j out → condition out) :
    JumpNotTaken j condition := by
  intro a c u d s haccess hcond
  have hnot : ¬ Takes j (alu c s.d (yOf a s)) := mt (h _) hcond
  refine ⟨_, exec_mkC_of_runsClean ⟨haccess, fun ht => absurd ht hnot⟩, ?_, rfl⟩
  rw [afterC_pc_of_not_takes hnot, nextIndex_eq_ofNat, BitVec.toNat_ofNat]
  exact Nat.mod_mod _ _

/-- R150: a jump value whose test is `condition` has the taken and the not taken clause. -/
theorem jumpRules_of_takes_iff {j : Jump} {condition : Word → Prop} (h : ∀ out, Takes j out ↔ condition out) :
    JumpTaken j condition ∧ JumpNotTaken j condition :=
  ⟨jumpTaken_of_takes fun out => (h out).2, jumpNotTaken_of_takes fun out => (h out).1⟩

/-- Settles O20: each combined condition is the union of the signs its three bits select. -/
theorem combinedJumpRules : Obligations.CombinedJumpRules := by
  refine ⟨⟨jumpBits_of_getLsbD 0b011#3, jumpRules_of_takes_iff fun out => ?_⟩,
    ⟨jumpBits_of_getLsbD 0b101#3, jumpRules_of_takes_iff fun out => ?_⟩,
    ⟨jumpBits_of_getLsbD 0b110#3, jumpRules_of_takes_iff fun out => ?_⟩,
    ⟨jumpBits_of_getLsbD 0b111#3, jumpTaken_of_takes fun out _ => ?_⟩⟩
  · simp only [takes_iff_sint, Bool.false_eq_true, false_and, false_or, true_and]
    omega
  · rw [takes_iff_sint, ne_eq, ← sint_eq_zero_iff]
    simp only [Bool.false_eq_true, false_and, false_or, true_and]
    omega
  · simp only [takes_iff_sint, Bool.false_eq_true, false_and, or_false, true_and]
    omega
  · simp only [takes_iff_sint, true_and]
    omega

/-! ### The stages of the ALU -/

/-- R147: f = 1 adds modulo 2^16. -/
theorem functionStage_eq (f : Bool) (x y : Word) :
    functionStage f x y = if f then BitVec.ofNat 16 ((uint x + uint y) % 65536) else x &&& y := by
  have hadd : x + y = BitVec.ofNat 16 ((uint x + uint y) % 65536) := BitVec.eq_of_toNat_eq (by simp)
  rw [functionStage, hadd]

/-- Settles O21: the stages of R149 are the ALU's output, and the step is R140's over that output. -/
theorem cInstructionStep : Obligations.CInstructionStep := by
  intro a c u d j s x1 x2 y1 y2 o out
  have hout : alu c s.d (yOf a s) = out := by
    rw [alu, functionStage_eq]
    rfl
  rw [exec_mkC_eq, hout]

end Sys2Proof

namespace Sys2Proof.Machine

/-! ### The frame of a C-instruction -/

/-- The same state but for the four fields that R156 says no C-instruction reads. -/
def withUnread (s : State) (rom : Memory) (run : RunState) (rate : Nat) (fault : Option AddressFault) : State :=
  { s with rom := rom, run := run, rate := rate, fault := fault }

/-- R156: a C-instruction ends in the same fault, or commits the same output, whatever the fields it does not read. -/
theorem exec_mkC_withUnread (a : Bool) (c : Ctrl) (u : BitVec 2) (d : Dest) (j : Jump) (s : State) :
    (∃ k w, ∀ rom run rate fault, exec (mkC a c u d j) (withUnread s rom run rate fault) =
      .next (afterFault k w (withUnread s rom run rate fault))) ∨
    ∃ out, ∀ rom run rate fault, exec (mkC a c u d j) (withUnread s rom run rate fault) =
      .next (afterC d j out (withUnread s rom run rate fault)) := by
  have ha : ∀ rom run rate fault, (withUnread s rom run rate fault).a = s.a := fun _ _ _ _ => rfl
  have hd : ∀ rom run rate fault, (withUnread s rom run rate fault).d = s.d := fun _ _ _ _ => rfl
  have hy : ∀ rom run rate fault, yOf a (withUnread s rom run rate fault) = yOf a s := fun _ _ _ _ => rfl
  simp only [exec_mkC_eq, ha, hd, hy]
  by_cases hread : a = true ∧ 24577 ≤ uint s.a
  · exact .inl ⟨_, _, fun _ _ _ _ => if_pos hread⟩
  by_cases hwrite : d.toM = true ∧ 24577 ≤ uint s.a
  · exact .inl ⟨_, _, fun _ _ _ _ => by rw [if_neg hread, if_pos hwrite]⟩
  by_cases hjump : Takes j (alu c s.d (yOf a s)) ∧ 32768 ≤ uint s.a
  · exact .inl ⟨_, _, fun _ _ _ _ => by rw [if_neg hread, if_neg hwrite, if_pos hjump]⟩
  · exact .inr ⟨_, fun _ _ _ _ => by rw [if_neg hread, if_neg hwrite, if_neg hjump]⟩

/-- R54, R153: a commit writes no RAM word but that at uint(A_pre). -/
theorem afterC_read_other (d : Dest) (j : Jump) (out : Word) {s : State} {addr : Nat} (h : addr ≠ uint s.a) :
    (afterC d j out s).ram.read addr = s.ram.read addr := by
  simp only [afterC]
  split
  · exact Memory.read_write_other s.ram out h.symm
  · rfl

end Sys2Proof.Machine

namespace Sys2Proof

open Sys2Proof.Machine

/-- Settles O22: a C-instruction ends in a fault or a commit, and which one does not depend on what it does not read. -/
theorem cInstructionFrame : Obligations.CInstructionFrame := by
  intro a c u d j s t hs h
  obtain ⟨hrom, hrun, hrate, hgrace, hschedule, hdraws⟩ := exec_keeps h
  refine ⟨hrom, hrun, hrate, hgrace, hschedule, hdraws, ?_⟩
  rcases exec_mkC_withUnread a c u d j s with ⟨k, w, hall⟩ | ⟨out, hall⟩
  · obtain rfl : t = afterFault k w s := Host.Outcome.next.inj (h.symm.trans (hall s.rom s.run s.rate s.fault))
    exact ⟨fun _ => rfl, fun _ => rfl, fun _ => rfl, fun _ _ => rfl, fun _ => ⟨rfl, rfl, rfl, rfl⟩, hall⟩
  · obtain rfl : t = afterC d j out s := Host.Outcome.next.inj (h.symm.trans (hall s.rom s.run s.rate s.fault))
    have hfault : (afterC d j out s).fault = none := hs
    refine ⟨fun hA => by simp [afterC, hA], fun hD => by simp [afterC, hD], fun hM => by simp [afterC, hM],
      fun _ haddr => afterC_read_other d j out haddr, fun hne => absurd hfault hne, fun rom run rate fault => ?_⟩
    rw [if_pos hfault]
    exact hall rom run rate fault

/-! ### The same register as source and destination -/

/-- R150: with jump = 000 nothing jumps. -/
theorem not_takes_null (out : Word) : ¬ Takes ⟨false, false, false⟩ out := by
  simp [Takes]

/-- R140, R150: with jump = 000 only an M access can keep an instruction from its commit. -/
theorem exec_mkC_of_null (a : Bool) (c : Ctrl) (u : BitVec 2) {d : Dest} {out : Word} {s : State}
    (hout : alu c s.d (yOf a s) = out) (h : (a = true ∨ d.toM = true) → uint s.a < 24577) :
    exec (mkC a c u d ⟨false, false, false⟩) s = .next (afterC d ⟨false, false, false⟩ out s) := by
  subst hout
  exact exec_mkC_of_runsClean ⟨h, fun htakes => absurd htakes (not_takes_null _)⟩

/-- R235: comp = 110111 is y + 1. -/
theorem alu_inc_y (x y : Word) : alu ⟨true, true, false, true, true, true⟩ x y = y + 1 := by
  simp only [alu, zeroStage, notStage, functionStage, if_true, Bool.false_eq_true, if_false]
  bv_omega

/-- R228: comp = 110000 is y. -/
theorem alu_y (x y : Word) : alu ⟨true, true, false, false, false, false⟩ x y = y := by
  change ~~~0#16 &&& y = y
  rw [BitVec.not_zero, BitVec.allOnes_and]

/-- R192: comp = 001100 is D. -/
theorem alu_x (x y : Word) : alu ⟨false, false, true, true, false, false⟩ x y = x := by
  change x &&& ~~~0#16 = x
  rw [BitVec.not_zero, BitVec.and_allOnes]

/-- R54: the Word written is read back at A_pre, where dM = 1. -/
theorem afterC_read_self {d : Dest} (j : Jump) (out : Word) {s : State} (hs : Memory.wf ramWords s.ram = true)
    (hd : d.toM = true) : (afterC d j out s).ram.read (uint s.a) = out := by
  simp only [afterC, hd, if_true]
  exact Memory.read_write_self out hs

/-- R155 (e): a store of the Word that RAM[uint(A_pre)] holds leaves every Word of RAM as it was. -/
theorem afterC_read_of_stored_self (d : Dest) (j : Jump) {s : State} (hs : Memory.wf ramWords s.ram = true)
    (addr : Nat) : (afterC d j (s.ram.read (uint s.a)) s).ram.read addr = s.ram.read addr := by
  by_cases haddr : addr = uint s.a
  · subst haddr
    cases hd : d.toM with
    | false => simp [afterC, hd]
    | true => exact afterC_read_self j _ hs hd
  · exact afterC_read_other d j _ haddr

/-- R154, R155 (f): with jump = 000 and D stored to D, only the PC changes. -/
theorem afterC_store_D_self (s : State) :
    afterC ⟨false, true, false⟩ ⟨false, false, false⟩ s.d s = { s with pc := s.pc + 1 } := by
  have hpc := afterC_pc_of_not_takes (d := ⟨false, true, false⟩) (s := s) (not_takes_null s.d)
  exact congrArg (setPc s) hpc

/-- R154, R155 (g): a jump to PC_pre with no destination leaves the state as it was. -/
theorem afterC_jump_to_self {j : Jump} {out : Word} {s : State} (htakes : Takes j out) (ha : uint s.a = s.pc.toNat) :
    afterC ⟨false, false, false⟩ j out s = s := by
  have hpc : (afterC ⟨false, false, false⟩ j out s).pc = s.pc :=
    BitVec.eq_of_toNat_eq ((afterC_pc_of_takes htakes (ha ▸ s.pc.isLt)).trans ha)
  exact congrArg (setPc s) hpc

/-- Settles O24: each case is the commit of its row, with `out` the row's closed form. -/
theorem sameRegisterSourceAndDestination : Obligations.SameRegisterSourceAndDestination := by
  refine ⟨fun s ha => ?incrementA, fun s hs ha => ?incrementMToAM, fun a c u d j s hdA hclean htakes => ?jumpToOldA,
    fun s hs ha => ?sumToAMD, fun s hs ha => ?storeMToM, fun s => ?storeDToD, fun s ha => ?jumpToSelf⟩
  case incrementA =>
    refine ⟨_, exec_mkC_of_null false ⟨true, true, false, true, true, true⟩ 3 (alu_inc_y s.d s.a) nofun, ?_⟩
    change s.a + 1 = 0
    rw [ha]
    rfl
  case incrementMToAM =>
    exact ⟨_, exec_mkC_of_null true ⟨true, true, false, true, true, true⟩ 3 (alu_inc_y _ _) fun _ => ha,
      afterC_read_self _ _ hs rfl, rfl, fun _ => afterC_read_other _ _ _⟩
  case jumpToOldA =>
    exact ⟨_, exec_mkC_of_runsClean hclean, afterC_pc_of_takes htakes (hclean.2 htakes), if_pos hdA⟩
  case sumToAMD =>
    exact ⟨_, exec_mkC_of_null false ⟨false, false, false, false, true, false⟩ 3 rfl fun _ => ha, rfl, rfl,
      afterC_read_self _ _ hs rfl⟩
  case storeMToM =>
    exact ⟨_, exec_mkC_of_null true ⟨true, true, false, false, false, false⟩ 3 (alu_y _ _) fun _ => ha,
      afterC_read_of_stored_self _ _ hs⟩
  case storeDToD =>
    rw [← afterC_store_D_self]
    exact exec_mkC_of_null false ⟨false, false, true, true, false, false⟩ 3 (alu_x _ _) nofun
  case jumpToSelf =>
    have hout : alu ⟨true, false, true, false, true, false⟩ s.d (yOf false s) = 0 := rfl
    have hstep := exec_mkC_of_runsClean (a := false) (c := ⟨true, false, true, false, true, false⟩) (u := 3)
      (d := ⟨false, false, false⟩) (j := ⟨true, true, true⟩) (s := s) ⟨nofun, fun _ => by omega⟩
    rw [afterC_jump_to_self (.inr (.inl ⟨rfl, hout⟩)) ha] at hstep
    exact hstep

end Sys2Proof

/-! PROOFS of the statements of 42_comp_functions.md: the 64 comp values, each with a = 0 and a = 1. -/

namespace Sys2Proof.Machine

/-! ### The Words of a row -/

/-- R98: the part of a C-instruction's Word that the row mask 0x9FC0 keeps is the row's own Word, its other fields 0. -/
theorem and_rowMask_eq_encodeC {w : Word} (h : w.getLsbD 15 = true) :
    w &&& 0x9FC0#16 =
      encodeC (w.getLsbD 12) (ctrlOf w) 0 ⟨false, false, false⟩ ⟨false, false, false⟩ := by
  have hfields := encodeC_fields (w := w &&& 0x9FC0#16) (by simp [h])
  have hunused : (w &&& 0x9FC0#16).extractLsb' 13 2 = 0 := by
    rw [BitVec.extractLsb'_and]
    exact BitVec.and_zero
  rw [← hfields, hunused]
  simp [ctrlOf, destOf, jumpOf]

/-- R98: the Words of the row (a, c) are those that match its own Word under mask 0x9FC0. -/
theorem and_rowMask_eq_iff (a : Bool) (c : Ctrl) (w : Word) :
    w &&& 0x9FC0#16 = encodeC a c 0 ⟨false, false, false⟩ ⟨false, false, false⟩ ↔
      ∃ u d j, decodeWord w = mkC a c u d j := by
  constructor
  · intro h
    have hbit : ∀ i, (0x9FC0#16).getLsbD i = true → w.getLsbD i =
        (encodeC a c 0 ⟨false, false, false⟩ ⟨false, false, false⟩).getLsbD i := fun i hi => by
      rw [← h, BitVec.getLsbD_and, hi, Bool.and_true]
    have ha : w.getLsbD 12 = a := (hbit 12 rfl).trans (a_encodeC a c 0 _ _)
    have hc : ctrlOf w = c := by
      rw [← ctrlOf_encodeC a c 0 ⟨false, false, false⟩ ⟨false, false, false⟩]
      simp only [ctrlOf, hbit 11 rfl, hbit 10 rfl, hbit 9 rfl, hbit 8 rfl, hbit 7 rfl, hbit 6 rfl]
    rw [decodeWord_of_class ((hbit 15 rfl).trans (class_encodeC a c 0 _ _)), ha, hc]
    exact ⟨_, _, _, rfl⟩
  · rintro ⟨u, d, j, h⟩
    obtain rfl : w = encodeC a c u d j := by rw [← encode_decodeWord w, h, encode_mkC]
    rw [and_rowMask_eq_encodeC (class_encodeC a c u d j), a_encodeC, ctrlOf_encodeC]

/-- R99: without dest and jump, the text of a C-instruction is that of its comp field. -/
theorem disassemble_encode_mkC (a : Bool) (c : Ctrl) (u : BitVec 2) :
    (disassemble (encode (mkC a c u ⟨false, false, false⟩ ⟨false, false, false⟩))).toList = compText a c := by
  rw [encode_mkC, disassemble_of_class (class_encodeC ..), a_encodeC, ctrlOf_encodeC, destOf_encodeC, jumpOf_encodeC,
    String.toList_ofList]
  exact List.append_nil _

/-! ### The exception of a row -/

/-- R140, R302: where a check fires, the first that does so raises its AddressFault. -/
theorem exec_mkC_of_not_runsClean {a : Bool} {c : Ctrl} {u : BitVec 2} {d : Dest} {j : Jump} {s : State}
    (h : ¬ RunsClean a d j (alu c s.d (yOf a s)) s) :
    exec (mkC a c u d j) s = .next (afterFault (firstFault a d s) (encode (mkC a c u d j)) s) := by
  rw [exec_mkC_eq, firstFault]
  by_cases hread : 24577 ≤ uint s.a ∧ a = true
  · rw [if_pos hread.symm, if_pos hread]
  by_cases hwrite : 24577 ≤ uint s.a ∧ d.toM = true
  · rw [if_neg (mt And.symm hread), if_pos hwrite.symm, if_neg hread, if_pos hwrite]
  have haccess : (a = true ∨ d.toM = true) → uint s.a < 24577 := fun hor => by
    by_contra hge
    exact hor.elim (fun ha => hread ⟨Nat.not_lt.1 hge, ha⟩) (fun hd => hwrite ⟨Nat.not_lt.1 hge, hd⟩)
  have hjump : Takes j (alu c s.d (yOf a s)) ∧ 32768 ≤ uint s.a := by
    by_contra hnot
    exact h ⟨haccess, fun htakes => Nat.not_le.1 fun hge => hnot ⟨htakes, hge⟩⟩
  rw [if_neg (mt And.symm hread), if_neg (mt And.symm hwrite), if_pos hjump, if_neg hread, if_neg hwrite]

end Sys2Proof.Machine

namespace Sys2Proof

open Sys2Proof.Machine

/-! ### The rows of the opcode table -/

/-- R98, R102, R103: the row (a, c) of the opcode table has this pattern under mask 0x9FC0, this comp mnemonic and this
constructor. -/
structure IsOpcodeRow (a : Bool) (c : Ctrl) (pattern : Word) (mnemonic : String)
    (mk : BitVec 2 → Dest → Jump → Instr) : Prop where
  pattern_eq : encodeC a c 0 ⟨false, false, false⟩ ⟨false, false, false⟩ = pattern
  text_eq : compText a c = mnemonic.toList
  mk_eq : mkC a c = mk

/-- Everything a rule R180 to R243 says of a row follows from the closed form of its ALU output. -/
theorem IsOpcodeRow.compRow {a : Bool} {c : Ctrl} {pattern : Word} {mnemonic : String}
    {mk : BitVec 2 → Dest → Jump → Instr} {f : Word → Word → Word} (h : IsOpcodeRow a c pattern mnemonic mk)
    (hf : ∀ x y, alu c x y = f x y) : CompRow a pattern mnemonic mk f := by
  obtain ⟨rfl, htext, rfl⟩ := h
  obtain rfl : alu c = f := funext₂ hf
  exact
    { encoding := and_rowMask_eq_iff a c
      name := fun u => (disassemble_encode_mkC a c u).trans htext
      result := fun _ _ _ _ => exec_mkC_of_runsClean
      exceptions := fun _ _ _ _ => exec_mkC_of_not_runsClean }

/-- R180 to R243: the two rows of a comp value have one closed form, over y = A and over y = M. -/
theorem compRow_pair {pattern pattern' : Word} {mnemonic mnemonic' : String}
    {mk mk' : BitVec 2 → Dest → Jump → Instr} {f : Word → Word → Word}
    (hf : ∀ x y, alu (ctrlOf pattern) x y = f x y)
    (h : IsOpcodeRow false (ctrlOf pattern) pattern mnemonic mk := by exact ⟨rfl, rfl, rfl⟩)
    (h' : IsOpcodeRow true (ctrlOf pattern) pattern' mnemonic' mk' := by exact ⟨rfl, rfl, rfl⟩) :
    CompRow false pattern mnemonic mk f ∧ CompRow true pattern' mnemonic' mk' f :=
  ⟨h.compRow hf, h'.compRow hf⟩

/-! ### The closed forms

Each line shows what the stages of R149 compute for one comp value and the closed form it equals: for f = 0 by the laws
of the bitwise operations, for f = 1 by arithmetic modulo 2^16. -/

/-- Settles O10: zx = nx = zy = 0, so the stages before f leave x, and y or its complement. -/
theorem compRows000 : Obligations.CompRows000 :=
  and_assoc.1 ⟨compRow_pair fun x y => show x &&& y = x &&& y from rfl,
  and_assoc.1 ⟨compRow_pair fun x y => show ~~~(x &&& y) = ~~~(x &&& y) from rfl,
  and_assoc.1 ⟨compRow_pair fun x y => show x + y = x + y from rfl,
  and_assoc.1 ⟨compRow_pair fun x y => show ~~~(x + y) = -x - y - 1 by bv_omega,
  and_assoc.1 ⟨compRow_pair fun x y => show x &&& ~~~y = x &&& ~~~y from rfl,
  and_assoc.1 ⟨compRow_pair fun x y => show ~~~(x &&& ~~~y) = ~~~x ||| y by rw [BitVec.not_and, BitVec.not_not],
  and_assoc.1 ⟨compRow_pair fun x y => show x + ~~~y = x - y - 1 by bv_omega,
  compRow_pair fun x y => show ~~~(x + ~~~y) = y - x by bv_omega⟩⟩⟩⟩⟩⟩⟩

/-- Settles O11: zx = nx = 0 and zy = 1, so the stages before f leave x, and 0 or its complement. -/
theorem compRows001 : Obligations.CompRows001 :=
  and_assoc.1 ⟨compRow_pair fun x _ => show x &&& 0#16 = 0#16 from BitVec.and_zero,
  and_assoc.1 ⟨compRow_pair fun x _ => show ~~~(x &&& 0#16) = 0xFFFF#16 from congrArg _ BitVec.and_zero,
  and_assoc.1 ⟨compRow_pair fun x _ => show x + 0#16 = x by bv_omega,
  and_assoc.1 ⟨compRow_pair fun x _ => show ~~~(x + 0#16) = ~~~x by bv_omega,
  and_assoc.1 ⟨compRow_pair fun x _ => show x &&& ~~~0#16 = x from BitVec.and_allOnes,
  and_assoc.1 ⟨compRow_pair fun x _ => show ~~~(x &&& ~~~0#16) = ~~~x from congrArg _ BitVec.and_allOnes,
  and_assoc.1 ⟨compRow_pair fun x _ => show x + ~~~0#16 = x - 1 by bv_omega,
  compRow_pair fun x _ => show ~~~(x + ~~~0#16) = -x by bv_omega⟩⟩⟩⟩⟩⟩⟩

/-- Settles O12: zx = zy = 0 and nx = 1, so the stages before f leave the complement of x, and y or its complement. -/
theorem compRows010 : Obligations.CompRows010 :=
  and_assoc.1 ⟨compRow_pair fun x y => show ~~~x &&& y = ~~~x &&& y from rfl,
  and_assoc.1 ⟨compRow_pair fun x y => show ~~~(~~~x &&& y) = x ||| ~~~y by rw [BitVec.not_and, BitVec.not_not],
  and_assoc.1 ⟨compRow_pair fun x y => show ~~~x + y = y - x - 1 by bv_omega,
  and_assoc.1 ⟨compRow_pair fun x y => show ~~~(~~~x + y) = x - y by bv_omega,
  and_assoc.1 ⟨compRow_pair fun x y => show ~~~x &&& ~~~y = ~~~(x ||| y) from BitVec.not_or.symm,
  and_assoc.1 ⟨compRow_pair fun x y => show ~~~(~~~x &&& ~~~y) = x ||| y by rw [← BitVec.not_or, BitVec.not_not],
  and_assoc.1 ⟨compRow_pair fun x y => show ~~~x + ~~~y = -x - y - 2 by bv_omega,
  compRow_pair fun x y => show ~~~(~~~x + ~~~y) = x + y + 1 by bv_omega⟩⟩⟩⟩⟩⟩⟩

/-- Settles O13: zx = 0 and nx = zy = 1, so the stages before f leave the complement of x, and 0 or its complement. -/
theorem compRows011 : Obligations.CompRows011 :=
  and_assoc.1 ⟨compRow_pair fun x _ => show ~~~x &&& 0#16 = 0#16 from BitVec.and_zero,
  and_assoc.1 ⟨compRow_pair fun x _ => show ~~~(~~~x &&& 0#16) = 0xFFFF#16 from congrArg _ BitVec.and_zero,
  and_assoc.1 ⟨compRow_pair fun x _ => show ~~~x + 0#16 = ~~~x by bv_omega,
  and_assoc.1 ⟨compRow_pair fun x _ => show ~~~(~~~x + 0#16) = x by bv_omega,
  and_assoc.1 ⟨compRow_pair fun x _ => show ~~~x &&& ~~~0#16 = ~~~x from BitVec.and_allOnes,
  and_assoc.1 ⟨compRow_pair fun x _ => show ~~~(~~~x &&& ~~~0#16) = x from
    (congrArg _ BitVec.and_allOnes).trans BitVec.not_not,
  and_assoc.1 ⟨compRow_pair fun x _ => show ~~~x + ~~~0#16 = -x - 2 by bv_omega,
  compRow_pair fun x _ => show ~~~(~~~x + ~~~0#16) = x + 1 by bv_omega⟩⟩⟩⟩⟩⟩⟩

/-- Settles O14: zx = 1 and nx = zy = 0, so the stages before f leave 0, and y or its complement. -/
theorem compRows100 : Obligations.CompRows100 :=
  and_assoc.1 ⟨compRow_pair fun _ y => show 0#16 &&& y = 0#16 from BitVec.zero_and,
  and_assoc.1 ⟨compRow_pair fun _ y => show ~~~(0#16 &&& y) = 0xFFFF#16 from congrArg _ BitVec.zero_and,
  and_assoc.1 ⟨compRow_pair fun _ y => show 0#16 + y = y by bv_omega,
  and_assoc.1 ⟨compRow_pair fun _ y => show ~~~(0#16 + y) = ~~~y by bv_omega,
  and_assoc.1 ⟨compRow_pair fun _ y => show 0#16 &&& ~~~y = 0#16 from BitVec.zero_and,
  and_assoc.1 ⟨compRow_pair fun _ y => show ~~~(0#16 &&& ~~~y) = 0xFFFF#16 from congrArg _ BitVec.zero_and,
  and_assoc.1 ⟨compRow_pair fun _ y => show 0#16 + ~~~y = ~~~y by bv_omega,
  compRow_pair fun _ y => show ~~~(0#16 + ~~~y) = y by bv_omega⟩⟩⟩⟩⟩⟩⟩

/-- Settles O15: zx = zy = 1 and nx = 0, so the output is a constant. -/
theorem compRows101 : Obligations.CompRows101 :=
  and_assoc.1 ⟨compRow_pair fun _ _ => show 0#16 &&& 0#16 = 0#16 from rfl,
  and_assoc.1 ⟨compRow_pair fun _ _ => show ~~~(0#16 &&& 0#16) = 0xFFFF#16 from rfl,
  and_assoc.1 ⟨compRow_pair fun _ _ => show 0#16 + 0#16 = 0#16 from rfl,
  and_assoc.1 ⟨compRow_pair fun _ _ => show ~~~(0#16 + 0#16) = 0xFFFF#16 from rfl,
  and_assoc.1 ⟨compRow_pair fun _ _ => show 0#16 &&& ~~~0#16 = 0#16 from rfl,
  and_assoc.1 ⟨compRow_pair fun _ _ => show ~~~(0#16 &&& ~~~0#16) = 0xFFFF#16 from rfl,
  and_assoc.1 ⟨compRow_pair fun _ _ => show 0#16 + ~~~0#16 = 0xFFFF#16 from rfl,
  compRow_pair fun _ _ => show ~~~(0#16 + ~~~0#16) = 0#16 from rfl⟩⟩⟩⟩⟩⟩⟩

/-- Settles O16: zx = nx = 1 and zy = 0, so the stages before f leave the complement of 0, and y or its complement. -/
theorem compRows110 : Obligations.CompRows110 :=
  and_assoc.1 ⟨compRow_pair fun _ y => show ~~~0#16 &&& y = y from BitVec.allOnes_and,
  and_assoc.1 ⟨compRow_pair fun _ y => show ~~~(~~~0#16 &&& y) = ~~~y from congrArg _ BitVec.allOnes_and,
  and_assoc.1 ⟨compRow_pair fun _ y => show ~~~0#16 + y = y - 1 by bv_omega,
  and_assoc.1 ⟨compRow_pair fun _ y => show ~~~(~~~0#16 + y) = -y by bv_omega,
  and_assoc.1 ⟨compRow_pair fun _ y => show ~~~0#16 &&& ~~~y = ~~~y from BitVec.allOnes_and,
  and_assoc.1 ⟨compRow_pair fun _ y => show ~~~(~~~0#16 &&& ~~~y) = y from
    (congrArg _ BitVec.allOnes_and).trans BitVec.not_not,
  and_assoc.1 ⟨compRow_pair fun _ y => show ~~~0#16 + ~~~y = -y - 2 by bv_omega,
  compRow_pair fun _ y => show ~~~(~~~0#16 + ~~~y) = y + 1 by bv_omega⟩⟩⟩⟩⟩⟩⟩

/-- Settles O17: zx = nx = zy = 1, so the output is a constant. -/
theorem compRows111 : Obligations.CompRows111 :=
  and_assoc.1 ⟨compRow_pair fun _ _ => show ~~~0#16 &&& 0#16 = 0#16 from rfl,
  and_assoc.1 ⟨compRow_pair fun _ _ => show ~~~(~~~0#16 &&& 0#16) = 0xFFFF#16 from rfl,
  and_assoc.1 ⟨compRow_pair fun _ _ => show ~~~0#16 + 0#16 = 0xFFFF#16 from rfl,
  and_assoc.1 ⟨compRow_pair fun _ _ => show ~~~(~~~0#16 + 0#16) = 0#16 from rfl,
  and_assoc.1 ⟨compRow_pair fun _ _ => show ~~~0#16 &&& ~~~0#16 = 0xFFFF#16 from rfl,
  and_assoc.1 ⟨compRow_pair fun _ _ => show ~~~(~~~0#16 &&& ~~~0#16) = 0#16 from rfl,
  and_assoc.1 ⟨compRow_pair fun _ _ => show ~~~0#16 + ~~~0#16 = 0xFFFE#16 from rfl,
  compRow_pair fun _ _ => show ~~~(~~~0#16 + ~~~0#16) = 0x0001#16 from rfl⟩⟩⟩⟩⟩⟩⟩

end Sys2Proof

/-! PROOFS of the statements of 43_dest_jump.md: the dest field and the jump field. -/

namespace Sys2Proof

open Sys2Proof.Machine

/-! ### The dest field -/

/-- R93: a dest value has dA, dD and dM in w[5:3] where a jump value has jLT, jEQ and jGT in w[2:0]. -/
theorem extractLsb'_eq_iff_destOf (bits : BitVec 3) (w : Word) :
    w.extractLsb' 3 3 = bits ↔ destOf w = ⟨bits.getLsbD 2, bits.getLsbD 1, bits.getLsbD 0⟩ := by
  have hbits : w.extractLsb' 3 3 = (w >>> 3).extractLsb' 0 3 := by
    simp [BitVec.extractLsb']
  rw [hbits, jumpBits_of_getLsbD bits (w >>> 3)]
  simp [jumpOf, destOf]

/-- R54, R153: after a commit RAM[uint(A_pre)] holds `out` where dM = 1, and what it held where dM = 0. -/
theorem afterC_read_cell (d : Dest) (j : Jump) (out : Word) {s : State} (hs : Memory.wf ramWords s.ram = true) :
    (afterC d j out s).ram.read (uint s.a) = if d.toM then out else s.ram.read (uint s.a) := by
  cases hd : d.toM with
  | false => simp [afterC, hd]
  | true => exact afterC_read_self j out hs hd

/-- R302: with a = 0 and dM = 1, an address out of range raises RamWrite, whatever the jump. -/
theorem exec_mkC_ramWrite (c : Ctrl) (u : BitVec 2) {d : Dest} (j : Jump) {s : State} (hd : d.toM = true)
    (hge : 24577 ≤ uint s.a) :
    exec (mkC false c u d j) s = .next (afterFault .ramWrite (encode (mkC false c u d j)) s) := by
  rw [exec_mkC_eq, if_neg (fun ⟨ha, _⟩ => Bool.false_ne_true ha), if_pos ⟨hd, hge⟩]

/-- R302: an instruction that makes no M access faults by its jump or not at all. -/
theorem exec_mkC_fault_of_no_access (c : Ctrl) (u : BitVec 2) {d : Dest} (j : Jump) {s : State} (hd : d.toM = false)
    (hs : s.fault = none) :
    ∃ t, exec (mkC false c u d j) s = .next t ∧
      ∀ f, t.fault = some f → f.kind = .jumpTarget ∧ Takes j (alu c s.d s.a) := by
  have haccess : (false = true ∨ d.toM = true) → uint s.a < 24577 := by simp [hd]
  by_cases hjump : Takes j (alu c s.d s.a) ∧ 32768 ≤ uint s.a
  · refine ⟨_, (exec_mkC_of_access_inRange haccess).trans (if_pos hjump), ?_⟩
    rintro _ ⟨⟩
    exact ⟨rfl, hjump.1⟩
  · refine ⟨_, (exec_mkC_of_access_inRange haccess).trans (if_neg hjump), fun f hf => ?_⟩
    exact nomatch hs.symm.trans hf

/-- R250 to R257: one rule for the eight values: each bit alone decides whether its destination is written. -/
theorem destRule_of_getLsbD (bits : BitVec 3) :
    DestRule bits ⟨bits.getLsbD 2, bits.getLsbD 1, bits.getLsbD 0⟩ where
  encoding := extractLsb'_eq_iff_destOf bits
  writes _ _ _ _ _ hs hclean :=
    ⟨_, exec_mkC_of_runsClean hclean, rfl, rfl, afterC_read_cell _ _ _ hs, fun _ => afterC_read_other _ _ _,
      fun hM => if_neg (Bool.eq_false_iff.1 hM)⟩
  exception c u j s hs hge := by
    split
    next hM => exact ⟨_, exec_mkC_ramWrite c u j hM hge, rfl⟩
    next hM => exact exec_mkC_fault_of_no_access c u j (Bool.eq_false_of_not_eq_true hM) hs

/-- Settles O18: the eight values are the eight settings of the three bits. -/
theorem destFieldRules : Obligations.DestFieldRules :=
  ⟨destRule_of_getLsbD 0b000#3, destRule_of_getLsbD 0b001#3, destRule_of_getLsbD 0b010#3,
    destRule_of_getLsbD 0b011#3, destRule_of_getLsbD 0b100#3, destRule_of_getLsbD 0b101#3,
    destRule_of_getLsbD 0b110#3, destRule_of_getLsbD 0b111#3⟩

/-! ### The jump values of at most one bit -/

/-- Settles O19: with at most one bit set, the test of R150 is that bit's own comparison, or never succeeds. -/
theorem jumpFieldRules : Obligations.JumpFieldRules :=
  ⟨⟨jumpBits_of_getLsbD 0b000#3, jumpNotTaken_of_takes not_takes_null⟩,
    ⟨jumpBits_of_getLsbD 0b001#3, jumpRules_of_takes_iff fun out => by simp [Takes]⟩,
    ⟨jumpBits_of_getLsbD 0b010#3, jumpRules_of_takes_iff fun out => by simp [Takes]⟩,
    ⟨jumpBits_of_getLsbD 0b100#3, jumpRules_of_takes_iff fun out => by simp [Takes]⟩⟩

end Sys2Proof

/-! PROOFS of the statements of 60_exceptions.md: the AddressFault, the engine and the host's commands, the Keyboard Bridge
and the Screen Bridge, and the host's duties. -/

namespace Sys2Proof.Machine

/-! ### The engine's turn and the host's single step: where they execute, and where they do nothing -/

theorem continuousEnabled_iff (s : State) :
    continuousEnabled s = true ↔ s.fault = none ∧ (s.run = .running ∨ 0 < s.grace) := by
  simp [continuousEnabled]

theorem continuousEnabled_eq_false_iff (s : State) :
    continuousEnabled s = false ↔ s.fault ≠ none ∨ (s.run ≠ .running ∧ s.grace = 0) := by
  rw [← Bool.not_eq_true, continuousEnabled_iff, not_and_or, not_or, Nat.not_lt, Nat.le_zero]

/-- R345: in Running or Paused and without a fault the host's `step()` executes ROM[PC]. -/
theorem stepCommand_of_enabled {s : State} (hrun : s.run ≠ .stopped) (hfault : s.fault = none) :
    stepCommand s = instructionStep s := by
  simp [stepCommand, singleStepEnabled, hrun, hfault]

/-- R345: in Stopped, or with a fault recorded, the host's `step()` does nothing. -/
theorem stepCommand_of_disabled {s : State} (h : s.run = .stopped ∨ s.fault ≠ none) : stepCommand s = .next s := by
  rcases h with hrun | hfault
  · simp [stepCommand, singleStepEnabled, hrun]
  · simp [stepCommand, singleStepEnabled, Option.isNone_eq_false_iff.2 (Option.isSome_iff_ne_none.2 hfault)]

/-! ### Every event answers a next state, and a step takes one event off the schedule -/

theorem engineTurn_answers_next (s : State) : ∃ t, engineTurn s = .next t := by
  cases h : continuousEnabled s with
  | false => exact ⟨s, engineTurn_disabled h⟩
  | true => exact engineTurn_enabled h ▸ exec_answers_next _ _

theorem stepCommand_answers_next (s : State) : ∃ t, stepCommand s = .next t := by
  by_cases h : s.run = .stopped ∨ s.fault ≠ none
  · exact ⟨s, stepCommand_of_disabled h⟩
  · obtain ⟨hrun, hfault⟩ := not_or.1 h
    exact stepCommand_of_enabled hrun (not_not.1 hfault) ▸ exec_answers_next _ s

theorem applyEvent_answers_next (e : Event) (s : State) : ∃ t, applyEvent e s = .next t := by
  cases e with
  | engine => exact engineTurn_answers_next s
  | step => exact stepCommand_answers_next s
  | load | run | pause | reset | setRate | windowClose | keyDown | keyUp | query | readState => exact ⟨_, rfl⟩

/-- R300: every step answers a next state. -/
theorem step_answers_next (s : State) : ∃ t, step s = .next t := by
  cases hs : s.schedule with
  | nil => exact step_of_nil hs ▸ engineTurn_answers_next s
  | cons e rest => exact step_of_cons hs ▸ applyEvent_answers_next e _

/-- R64: the step at which the engine is next, by the schedule or because nothing is scheduled, is its turn. -/
theorem step_of_engine_next {s : State} (h : s.schedule.head? = none ∨ s.schedule.head? = some .engine) :
    step s = engineTurn (setSchedule s s.schedule.tail) := by
  cases hs : s.schedule with
  | nil =>
    rw [step_of_nil hs]
    exact congrArg engineTurn (congrArg (setSchedule s) hs)
  | cons e rest =>
    obtain rfl : e = .engine := by simpa [hs] using h
    exact step_of_cons hs

/-- R64: a step takes exactly one event off the schedule, where there is one. -/
theorem step_schedule {s t : State} (h : step s = .next t) : t.schedule = s.schedule.tail := by
  rcases step_instruction_or_event h with rfl | ⟨g, -, -, -, hexec⟩ | ⟨e, rest, hs, hengine, hstep, hevent⟩
  · rfl
  · obtain ⟨-, -, -, -, hschedule, -⟩ := exec_keeps hexec
    exact hschedule
  · obtain ⟨-, hschedule, -⟩ := otherEvent_keeps hengine hstep hevent
    exact hschedule.trans (hs ▸ rfl)

/-! ### Stopped -/

/-- R346: in Stopped every event but the engine's turn leaves the state as it is. -/
theorem applyEvent_of_stopped {e : Event} {s : State} (hs : s.run = .stopped) (he : e ≠ .engine) :
    applyEvent e s = .next s := by
  cases e with
  | engine => exact absurd rfl he
  | step => exact stepCommand_of_disabled (.inl hs)
  | load file => simp [applyEvent, loadFile, hs]
  | run => simp [applyEvent, runCommand, hs]
  | pause => simp [applyEvent, pauseCommand, hs]
  | reset => simp [applyEvent, resetCommand, hs]
  | setRate r => simp [applyEvent, setRateCommand, hs]
  | windowClose => simp [applyEvent, closeWindow, hs]
  | keyDown k => simp [applyEvent, keyDown, hs]
  | keyUp => simp [applyEvent, keyUp, hs]
  | query => rfl
  | readState => rfl

/-- R346: a step in Stopped, the lag step included, stays in Stopped and gives no new grace. -/
theorem step_of_stopped {s t : State} (hs : s.run = .stopped) (h : step s = .next t) :
    t.run = .stopped ∧ t.grace ≤ s.grace := by
  rcases step_instruction_or_event h with rfl | ⟨g, hg, -, -, hexec⟩ | ⟨e, rest, -, hengine, -, hevent⟩
  · exact ⟨hs, Nat.le_refl _⟩
  · obtain ⟨-, hrun, -, hgrace, -, -⟩ := exec_keeps hexec
    exact ⟨hrun.trans hs, hgrace.trans_le hg⟩
  · cases (applyEvent_of_stopped (s := setSchedule s rest) hs hengine).symm.trans hevent
    exact ⟨hs, Nat.le_refl _⟩

/-- R346: in Stopped without grace a step only takes its event off the schedule. -/
theorem step_of_stopped_no_grace {s : State} (hs : s.run = .stopped) (hgrace : s.grace = 0) :
    step s = .next (setSchedule s s.schedule.tail) := by
  have hturn (es : List Event) : engineTurn (setSchedule s es) = .next (setSchedule s es) :=
    engineTurn_disabled ((continuousEnabled_eq_false_iff _).2 (.inr ⟨by simp [hs], hgrace⟩))
  by_cases hengine : s.schedule.head? = none ∨ s.schedule.head? = some .engine
  · exact (step_of_engine_next hengine).trans (hturn _)
  · cases hschedule : s.schedule with
    | nil => simp [hschedule] at hengine
    | cons e rest =>
      rw [step_of_cons hschedule]
      exact applyEvent_of_stopped hs fun he => hengine (.inr (by simp [hschedule, he]))

/-! ### The rate and the schedule are unseen: what a step does to the rest of the state depends on neither -/

/-- The same state but for its rate and its schedule. -/
def mapUnseen (g : Nat → Nat) (k : List Event → List Event) (s : State) : State :=
  { s with rate := g s.rate, schedule := k s.schedule }

section Unseen

variable (g : Nat → Nat) (k : List Event → List Event)

/-- R29, R64: no instruction observes the rate or the schedule. -/
theorem exec_mapUnseen {i : Instr} {s t : State} (h : exec i s = .next t) :
    exec i (mapUnseen g k s) = .next (mapUnseen g k t) := by
  rcases atV_or_mkC i with ⟨v, rfl⟩ | ⟨a, c, u, d, j, rfl⟩
  · cases h
    rfl
  · have hsame := exec_mkC_eq a c u d j (mapUnseen g k s)
    rw [exec_mkC_eq] at h
    split_ifs at h with hread hwrite hjump <;> cases h
    · exact hsame.trans (if_pos hread)
    · exact hsame.trans ((if_neg hread).trans (if_pos hwrite))
    · exact hsame.trans ((if_neg hread).trans ((if_neg hwrite).trans (if_pos hjump)))
    · exact hsame.trans ((if_neg hread).trans ((if_neg hwrite).trans (if_neg hjump)))

theorem engineTurn_mapUnseen {s t : State} (h : engineTurn s = .next t) :
    engineTurn (mapUnseen g k s) = .next (mapUnseen g k t) := by
  have henabled : continuousEnabled (mapUnseen g k s) = continuousEnabled s := rfl
  rcases engineTurn_cases h with ⟨hs, rfl⟩ | ⟨hs, hexec⟩
  · exact engineTurn_disabled (henabled.trans hs)
  · have hspend : spendGrace (mapUnseen g k s) = mapUnseen g k (spendGrace s) := by
      rw [spendGrace_eq, spendGrace_eq]
      rfl
    rw [engineTurn_enabled (henabled.trans hs), hspend]
    rw [spendGrace_eq] at hexec ⊢
    exact exec_mapUnseen g k hexec

theorem stepCommand_mapUnseen {s t : State} (h : stepCommand s = .next t) :
    stepCommand (mapUnseen g k s) = .next (mapUnseen g k t) := by
  rcases stepCommand_cases h with ⟨hs, rfl⟩ | ⟨hrun, hfault, hexec⟩
  · exact stepCommand_of_disabled hs
  · exact (stepCommand_of_enabled (s := mapUnseen g k s) hrun hfault).trans (exec_mapUnseen g k hexec)

/-- R64, R343: what an event does to the rest of the state depends on neither the rate nor the schedule; `setRate` alone
writes the rate, and so it is asked to be kept there. -/
theorem applyEvent_mapUnseen {e : Event} {s t : State} (hrate : ∀ r, e = .setRate r → g = id)
    (h : applyEvent e s = .next t) : applyEvent e (mapUnseen g k s) = .next (mapUnseen g k t) := by
  obtain ⟨pc, a, d, rom, ram, run, rate, fault, grace, schedule, draws⟩ := s
  cases e with
  | engine => exact engineTurn_mapUnseen g k h
  | step => exact stepCommand_mapUnseen g k h
  | load file =>
    cases h
    cases hfile : loadImage file <;> cases run <;> simp [applyEvent, loadFile, mapUnseen, hfile, setRom]
  | run => cases h; cases run <;> rfl
  | pause => cases h; cases run <;> rfl
  | reset => cases h; cases run <;> simp [applyEvent, resetCommand, mapUnseen, resetMachine_eq]
  | setRate r =>
    obtain rfl := hrate r rfl
    cases h
    cases r <;> cases run <;> rfl
  | windowClose => cases h; cases run <;> rfl
  | keyDown key =>
    cases h
    cases hkey : keyCode key <;> cases run <;>
      simp [applyEvent, keyDown, mapUnseen, hkey, writeKeyboard_eq, setRam]
  | keyUp => cases h; cases run <;> rfl
  | query => cases h; rfl
  | readState => cases h; rfl

end Unseen

/-- R64: what an event does does not depend on the events after it. -/
theorem applyEvent_setSchedule {e : Event} {s t : State} (es : List Event) (h : applyEvent e s = .next t) :
    applyEvent e (setSchedule s es) = .next (setSchedule t es) :=
  applyEvent_mapUnseen id (fun _ => es) (fun _ _ => rfl) h

/-- R343: a step that does not set the rate does the same whatever the rate is. -/
theorem step_setRateReg {s t : State} (r : Nat) (hs : ∀ r', Event.setRate r' ∉ s.schedule) (h : step s = .next t) :
    step (setRateReg s r) = .next (setRateReg t r) := by
  cases hschedule : s.schedule with
  | nil =>
    rw [step_of_nil hschedule] at h
    rw [step_of_nil (s := setRateReg s r) hschedule]
    exact engineTurn_mapUnseen (fun _ => r) id h
  | cons e rest =>
    rw [step_of_cons hschedule] at h
    rw [step_of_cons (s := setRateReg s r) hschedule]
    refine applyEvent_mapUnseen (fun _ => r) id (fun r' he => ?_) h
    exact absurd (hschedule ▸ he ▸ List.mem_cons_self) (hs r')

end Sys2Proof.Machine

namespace Sys2Proof

open Sys2Proof.Machine

/-! ### What every step keeps holds of every run -/

theorem steps_keep {P : State → Prop} (hkeep : ∀ s t, P s → step s = .next t → P t) (n : Nat) {s : State} (hs : P s) :
    ∃ t, steps n s = .next t ∧ P t := by
  induction n generalizing s with
  | zero => exact ⟨s, rfl, hs⟩
  | succ n ih =>
    obtain ⟨t, ht⟩ := step_answers_next s
    rw [steps_succ ht]
    exact ih (hkeep s t hs ht)

/-- R346: in Stopped without grace a run only uses up the schedule. -/
theorem steps_of_stopped_no_grace (n : Nat) {s : State} (hs : s.run = .stopped) (hgrace : s.grace = 0) :
    steps n s = .next (setSchedule s (s.schedule.drop n)) := by
  induction n generalizing s with
  | zero => rfl
  | succ n ih =>
    rw [steps_succ (step_of_stopped_no_grace hs hgrace), ih (s := setSchedule s s.schedule.tail) hs hgrace,
      setSchedule_schedule, List.drop_tail]
    rfl

/-- Settles O39: a step in Stopped stays there and gives no grace, and without grace no continuous step is enabled. -/
theorem stoppedIsTerminal : Obligations.StoppedIsTerminal := by
  intro s hs
  refine ⟨fun e he => applyEvent_of_stopped hs he, fun n => ?_, fun hgrace n => steps_of_stopped_no_grace n hs hgrace⟩
  refine steps_keep (P := fun t => t.run = .stopped ∧ t.grace ≤ s.grace) ?_ n ⟨hs, Nat.le_refl _⟩
  rintro t u ⟨hrun, hle⟩ hstep
  obtain ⟨hrun', hgrace⟩ := step_of_stopped hrun hstep
  exact ⟨hrun', hgrace.trans hle⟩

/-- Settles O41: by induction on the number of steps; each takes one event, which is no `setRate`, off the schedule. -/
theorem rateIsInvisible : Obligations.RateIsInvisible := by
  intro n
  induction n with
  | zero =>
    rintro s _ r - ⟨⟩
    rfl
  | succ n ih =>
    intro s t r hs h
    obtain ⟨u, hu⟩ := step_answers_next s
    rw [steps_succ hu] at h
    have hrest : ∀ r', Event.setRate r' ∉ u.schedule := fun r' hmem =>
      hs r' (List.mem_of_mem_tail (step_schedule hu ▸ hmem))
    exact (steps_succ (step_setRateReg r hs hu)).trans (ih u t r hrest h)

end Sys2Proof

namespace Sys2Proof.Machine

/-! ### The AddressFault -/

/-- R301, R303: an instruction leaves the fault record as it was, or writes a sound record of its own index, word and address
and changes nothing else. -/
theorem exec_fault {i : Instr} {s t : State} (h : exec i s = .next t) :
    t.fault = s.fault ∨ ∃ k, AddressFault.sound ⟨k, s.pc, encode i, s.a⟩ = true ∧
      t = setFault s ⟨k, s.pc, encode i, s.a⟩ := by
  rcases atV_or_mkC i with ⟨v, rfl⟩ | ⟨a, c, u, d, j, rfl⟩
  · cases h
    exact .inl rfl
  · rw [exec_mkC] at h
    rw [encode_mkC]
    rcases cStep_sound_or_commit h with hraised | ⟨y, -, -, -, rfl⟩
    · exact .inr hraised
    · exact .inl rfl

/-- R304, R305: no step of any kind clears or replaces a fault record. -/
theorem step_keeps_fault {s t : State} {f : AddressFault} (hs : s.fault = some f) (h : step s = .next t) :
    t.fault = some f := by
  rcases step_instruction_or_event h with rfl | ⟨g, -, hnone, -, -⟩ | ⟨e, rest, -, hengine, hstep, hevent⟩
  · exact hs
  · exact nomatch hs.symm.trans hnone
  · obtain ⟨hfault, -⟩ := otherEvent_keeps hengine hstep hevent
    exact hfault.trans hs

/-! ### The continuous step -/

/-- R342: where it is enabled, the engine's turn executes ROM[PC], with grace one less if run is not Running. -/
theorem engineTurn_of_enabled {s : State} (hfault : s.fault = none) (h : s.run = .running ∨ 0 < s.grace) :
    engineTurn s =
      exec (decodeWord (fetch s)) (setGrace s (if s.run = .running then s.grace else s.grace - 1)) := by
  rw [engineTurn_enabled ((continuousEnabled_iff s).2 ⟨hfault, h⟩), spendGrace_eq]
  rfl

/-- R342: in Running no grace is spent. -/
theorem engineTurn_of_running {s : State} (hfault : s.fault = none) (hrun : s.run = .running) :
    engineTurn s = exec (decodeWord (fetch s)) s := by
  rw [engineTurn_of_enabled hfault (.inl hrun), if_pos hrun]
  rfl

/-- R342: a lag step spends one of grace. -/
theorem engineTurn_of_lag {s : State} (hfault : s.fault = none) (hrun : s.run ≠ .running) (hgrace : 0 < s.grace) :
    engineTurn s = exec (decodeWord (fetch s)) (setGrace s (s.grace - 1)) := by
  rw [engineTurn_of_enabled hfault (.inr hgrace), if_neg hrun]

/-! ### The commands of R341 -/

theorem runCommand_eq (s : State) :
    runCommand s = if s.run = .paused then setGrace (setRun s .running) 0 else s := by
  cases hrun : s.run <;> simp [runCommand, hrun]

theorem pauseCommand_eq (s : State) :
    pauseCommand s = if s.run = .running then drawGrace (setRun s .paused) else s := by
  cases hrun : s.run <;> simp [pauseCommand, hrun]

/-- R341: a window close ends in Stopped, from Stopped too. -/
theorem closeWindow_eq (s : State) :
    closeWindow s = if s.run = .running then drawGrace (setRun s .stopped) else setRun s .stopped := by
  obtain ⟨pc, a, d, rom, ram, run, rate, fault, grace, schedule, draws⟩ := s
  cases run <;> rfl

theorem setRateCommand_eq (r : Nat) (s : State) :
    setRateCommand r s = if s.run ≠ .stopped ∧ 1 ≤ r then setRateReg s r else s := by
  cases r <;> cases hrun : s.run <;> simp [setRateCommand, hrun]

theorem resetCommand_cases (s : State) : resetCommand s = s ∨ resetCommand s = resetMachine s := by
  cases hrun : s.run <;> simp [resetCommand, hrun]

end Sys2Proof.Machine

namespace Sys2Proof

open Sys2Proof.Machine

/-- Settles O25: the checks of R140 in their order, and the commit where none fires. -/
theorem addressFaultKindsAndPriority : Obligations.AddressFaultKindsAndPriority := by
  refine ⟨fun a c u d j s hs => ⟨fun ha hge => ?ramRead, fun ha hd hge => ?ramWrite, fun ha hd htakes hge => ?jumpTarget,
    fun haccess hjump => ?clean⟩, fun v s => ⟨_, exec_atV v s, rfl⟩⟩
  case ramRead => exact (exec_mkC_eq ..).trans (if_pos ⟨ha, hge⟩)
  case ramWrite =>
    subst ha
    exact exec_mkC_ramWrite c u j hd hge
  case jumpTarget =>
    have hnone : (a = true ∨ d.toM = true) → uint s.a < 24577 := by simp [ha, hd]
    exact (exec_mkC_of_access_inRange hnone).trans (if_pos ⟨htakes, hge⟩)
  case clean =>
    have hclean : RunsClean a d j (alu c s.d (yOf a s)) s :=
      ⟨fun hor => Nat.not_le.1 fun hge => haccess ⟨hor, hge⟩, fun htakes => Nat.not_le.1 fun hge => hjump ⟨htakes, hge⟩⟩
    exact ⟨_, exec_mkC_of_runsClean hclean, hs⟩

/-- Settles O26: of the forms of a step only the instruction at PC writes the fault record. -/
theorem faultComesOnlyFromAnInstruction : Obligations.FaultComesOnlyFromAnInstruction := by
  intro s t f hs h hf
  rcases step_instruction_or_event h with rfl | ⟨g, -, -, hhead, hexec⟩ | ⟨e, rest, -, hengine, hstep, hevent⟩
  · exact nomatch hs.symm.trans hf
  · rcases exec_fault hexec with hsame | ⟨k, hsound, rfl⟩
    · exact nomatch hs.symm.trans (hsame.symm.trans hf)
    · obtain rfl : _ = f := Option.some.inj hf
      exact ⟨hhead, rfl, encode_decodeWord _, rfl, hsound, rfl, rfl, rfl, rfl, rfl, rfl⟩
  · obtain ⟨hsame, -⟩ := otherEvent_keeps hengine hstep hevent
    exact nomatch hs.symm.trans (hsame.symm.trans hf)

/-- Settles O27: a fault record disables both ways to execute an instruction, and every step keeps it. -/
theorem faultIsStickyAndStopsInstructions : Obligations.FaultIsStickyAndStopsInstructions := by
  intro s f hs
  have hfault : s.fault ≠ none := hs ▸ Option.some_ne_none f
  refine ⟨engineTurn_disabled ((continuousEnabled_eq_false_iff s).2 (.inl hfault)), stepCommand_of_disabled (.inr hfault),
    fun n => ?_⟩
  obtain ⟨t, ht, hf⟩ := steps_keep (P := fun t => t.fault = some f) (fun _ _ => step_keeps_fault) n hs
  exact ⟨t, ht, hf, fun hsafe => nomatch hf.symm.trans hsafe⟩

/-- Settles O28: every event and every instruction answers a next state. -/
theorem everyStepAnswersNext : Obligations.EveryStepAnswersNext :=
  ⟨step_answers_next, exec_answers_next⟩

/-- Settles O33: the engine's turn or the host's `step()` executes the decoded word, whichever is next. -/
theorem stepRunsTheDecodedInstruction : Obligations.StepRunsTheDecodedInstruction := by
  intro s hfault
  refine ⟨wellFormed_decodeWord _, fun hs hrun => ?_, fun hs hrun hgrace => ?_, fun rest hs hrun => ?_,
    fun rest hs hrun hgrace => ?_, fun rest hs hrun => ?_⟩
  · exact (step_of_nil hs).trans (engineTurn_of_running hfault hrun)
  · exact (step_of_nil hs).trans (engineTurn_of_lag hfault hrun hgrace)
  · exact (step_of_cons hs).trans (engineTurn_of_running (s := setSchedule s rest) hfault hrun)
  · exact (step_of_cons hs).trans (engineTurn_of_lag (s := setSchedule s rest) hfault hrun hgrace)
  · exact (step_of_cons hs).trans (stepCommand_of_enabled (s := setSchedule s rest) hrun hfault)

/-- Settles O34: the step is the engine's turn in the state without the turn's own event. -/
theorem continuousStepNeedsToBeEnabled : Obligations.ContinuousStepNeedsToBeEnabled := by
  intro s s' hs
  obtain ⟨hturn, es, rfl⟩ : step s = engineTurn s' ∧ ∃ es, s' = setSchedule s es := by
    rcases hs with ⟨hnil, rfl⟩ | ⟨rest, hcons, rfl⟩
    · exact ⟨step_of_nil hnil, s'.schedule, rfl⟩
    · exact ⟨step_of_cons hcons, rest, rfl⟩
  refine ⟨fun hdisabled => hturn.trans (engineTurn_disabled ((continuousEnabled_eq_false_iff _).2 hdisabled)),
    fun hfault henabled => ?_⟩
  rw [engineTurn_of_enabled (s := setSchedule s es) hfault henabled] at hturn
  obtain ⟨t, hexec⟩ := exec_answers_next (decodeWord (fetch s))
    (setGrace (setSchedule s es) (if s.run = .running then s.grace else s.grace - 1))
  obtain ⟨-, hrun, -, hgrace, hschedule, -⟩ := exec_keeps hexec
  exact ⟨t, hturn.trans hexec, hrun, hschedule, hgrace, hexec⟩

/-- Settles O38: the step is the host's `step()` in the state without its own event. -/
theorem singleStepCommand : Obligations.SingleStepCommand := by
  intro s rest hs
  refine ⟨fun hrun hfault => ?_, fun hdisabled => ?_⟩
  · obtain ⟨t, hexec⟩ := exec_answers_next (decodeWord (fetch s)) (setSchedule s rest)
    obtain ⟨-, hrun', -, hgrace, -, -⟩ := exec_keeps hexec
    have hstep := stepCommand_of_enabled (s := setSchedule s rest) hrun hfault
    exact ⟨t, (step_of_cons hs).trans (hstep.trans hexec), hexec, hrun', hgrace⟩
  · exact (step_of_cons hs).trans (stepCommand_of_disabled (s := setSchedule s rest) hdisabled)

/-- R341: a `pause()` in Running. -/
theorem step_of_pause {s : State} {rest : List Event} (hs : s.schedule = .pause :: rest) (hrun : s.run = .running) :
    step s = .next (drawGrace (setRun (setSchedule s rest) .paused)) := by
  rw [step_of_cons hs, applyEvent, pauseCommand_eq, setSchedule_run, if_pos hrun]

/-- R341: a window close in Running. -/
theorem step_of_windowClose {s : State} {rest : List Event} (hs : s.schedule = .windowClose :: rest)
    (hrun : s.run = .running) : step s = .next (drawGrace (setRun (setSchedule s rest) .stopped)) := by
  rw [step_of_cons hs, applyEvent, closeWindow_eq, setSchedule_run, if_pos hrun]

/-- Settles O37: each command by its own equation. -/
theorem commandTable : Obligations.CommandTable := by
  intro s rest
  refine ⟨fun hs => ?run, fun hs => ⟨fun hrun => ?pauseElsewhere, fun hrun => ?pauseRunning⟩,
    fun hs => ⟨fun hrun => ?closeStopped, fun hrun => ?closePaused, fun hrun => ?closeRunning⟩, fun r hs => ?setRate⟩
  case run =>
    rw [step_of_cons hs, applyEvent, runCommand_eq, apply_ite Host.Outcome.next, apply_ite Host.Outcome.next]
    rfl
  case pauseElsewhere =>
    rw [step_of_cons hs, applyEvent, pauseCommand_eq, setSchedule_run, if_neg hrun]
    rfl
  case pauseRunning =>
    refine ⟨_, _, drawnLag_le s.draws, step_of_pause hs hrun, ?_⟩
    rw [step_of_pause hs hrun]
    rintro _ ⟨⟩
    exact ⟨rfl, rfl⟩
  case closeStopped => exact (step_of_cons hs).trans (applyEvent_of_stopped (s := setSchedule s rest) hrun nofun)
  case closePaused =>
    rw [step_of_cons hs, applyEvent, closeWindow_eq, setSchedule_run, if_neg (by simp [hrun])]
    rfl
  case closeRunning => exact ⟨_, _, drawnLag_le s.draws, step_of_windowClose hs hrun⟩
  case setRate =>
    rw [step_of_cons hs, applyEvent, setRateCommand_eq]
    rfl

/-- Settles O58: a query and a read leave the state, and a `pause()` in Running leaves it Paused. -/
theorem hostReadsChangeNothing : Obligations.HostReadsChangeNothing := by
  intro s rest
  refine ⟨step_of_cons, step_of_cons, rfl, fun hrun => ?_, rfl, fun hs hrun => ⟨_, step_of_pause hs hrun, rfl⟩⟩
  simp [reply, isRunning, isPaused, hrun]

end Sys2Proof

namespace Sys2Proof

open Sys2Proof.Machine

/-! ### The lag of a pause -/

/-- R342: where the engine is next, the next event is a continuous step exactly where one is enabled. -/
theorem takesContinuousStep_of_engine_next {s : State}
    (h : s.schedule.head? = none ∨ s.schedule.head? = some .engine) : takesContinuousStep s = continuousEnabled s := by
  cases hs : s.schedule with
  | nil => exact takesContinuousStep_nil hs
  | cons e rest =>
    obtain rfl : e = .engine := by simpa [hs] using h
    exact takesContinuousStep_engine hs

/-- R33, R341, R344: outside Running no event but the engine's turn changes grace, and only a `run()` in Paused enters
Running. -/
theorem applyEvent_keeps_grace {e : Event} {s t : State} (hengine : e ≠ .engine) (hrun : s.run ≠ .running)
    (hresume : e = .run → s.run ≠ .paused) (h : applyEvent e s = .next t) : t.run ≠ .running ∧ t.grace = s.grace := by
  have hsame : s.run ≠ .running ∧ s.grace = s.grace := ⟨hrun, rfl⟩
  cases e with
  | engine => exact absurd rfl hengine
  | step =>
    rcases stepCommand_cases h with ⟨-, rfl⟩ | ⟨-, -, hexec⟩
    · exact hsame
    · obtain ⟨-, hrun', -, hgrace, -, -⟩ := exec_keeps hexec
      exact ⟨hrun' ▸ hrun, hgrace⟩
  | load file =>
    cases h
    rcases loadFile_cases file s with hload | ⟨-, image, -, hload⟩ <;> rw [hload] <;> exact hsame
  | run =>
    cases h
    rw [runCommand_eq, if_neg (hresume rfl)]
    exact hsame
  | pause =>
    cases h
    rw [pauseCommand_eq, if_neg hrun]
    exact hsame
  | reset =>
    cases h
    rcases resetCommand_cases s with hreset | hreset <;> rw [hreset]
    · exact hsame
    · rw [resetMachine_eq]
      exact hsame
  | setRate r =>
    cases h
    rw [setRateCommand_eq]
    split <;> exact hsame
  | windowClose =>
    cases h
    rw [closeWindow_eq, if_neg hrun]
    exact ⟨nofun, rfl⟩
  | keyDown k =>
    cases h
    rcases keyDown_cases k s with ⟨hkey, -⟩ | ⟨-, v, -, hkey⟩ <;> rw [hkey] <;> exact hsame
  | keyUp =>
    cases h
    unfold keyUp
    split <;> exact hsame
  | query => cases h; exact hsame
  | readState => cases h; exact hsame

/-- R342, R344: a step outside Running that is no resume stays outside Running, and takes from grace exactly what it counts
as a continuous step. -/
theorem step_grace {s t : State} (hrun : s.run ≠ .running) (hresume : ¬ Resumes s) (h : step s = .next t) :
    t.run ≠ .running ∧ (if takesContinuousStep s then 1 else 0) + t.grace = s.grace := by
  by_cases hnext : s.schedule.head? = none ∨ s.schedule.head? = some .engine
  · rw [takesContinuousStep_of_engine_next hnext]
    rw [step_of_engine_next hnext] at h
    cases hs : continuousEnabled s with
    | false =>
      cases (engineTurn_disabled (s := setSchedule s s.schedule.tail) hs).symm.trans h
      exact ⟨hrun, Nat.zero_add _⟩
    | true =>
      obtain ⟨hfault, hor⟩ := (continuousEnabled_iff s).1 hs
      have hpos : 0 < s.grace := hor.resolve_left hrun
      rw [engineTurn_of_lag (s := setSchedule s s.schedule.tail) hfault hrun hpos] at h
      obtain ⟨-, hrun', -, hgrace, -, -⟩ := exec_keeps h
      rw [if_pos rfl, hrun', hgrace]
      exact ⟨hrun, Nat.add_sub_of_le hpos⟩
  · cases hs : s.schedule with
    | nil => exact absurd (.inl (hs ▸ rfl)) hnext
    | cons e rest =>
      have hengine : e ≠ .engine := fun he => hnext (.inr (hs ▸ he ▸ rfl))
      rw [step_of_cons hs] at h
      rw [takesContinuousStep_other hs hengine, if_neg Bool.false_ne_true, Nat.zero_add]
      exact applyEvent_keeps_grace (s := setSchedule s rest) hengine hrun
        (fun he hpaused => hresume ⟨hpaused, hs ▸ he ▸ rfl⟩) h

/-- R344: over any run outside Running that is never resumed, the continuous steps and the grace left add up to the grace
at first. -/
theorem steps_grace (n : Nat) {s : State} (hrun : s.run ≠ .running)
    (hresume : ∀ m t, m < n → steps m s = .next t → ¬ Resumes t) :
    ∃ t, steps n s = .next t ∧ t.run ≠ .running ∧ continuousSteps n s + t.grace = s.grace := by
  induction n generalizing s with
  | zero => exact ⟨s, rfl, hrun, Nat.zero_add _⟩
  | succ n ih =>
    obtain ⟨u, hu⟩ := step_answers_next s
    obtain ⟨hrun', hgrace⟩ := step_grace hrun (hresume 0 s (Nat.succ_pos n) rfl) hu
    obtain ⟨t, ht, htrun, hsum⟩ := ih hrun' fun m v hm hv =>
      hresume (m + 1) v (Nat.succ_lt_succ hm) ((steps_succ hu).trans hv)
    exact ⟨t, (steps_succ hu).trans ht, htrun, by rw [continuousSteps_succ hu]; omega⟩

/-- R304, R342: with nothing scheduled and no continuous step enabled the state stays as it is. -/
theorem steps_of_quiescent {s : State} (hs : s.schedule = []) (hdisabled : continuousEnabled s = false) (n : Nat) :
    steps n s = .next s := by
  induction n with
  | zero => rfl
  | succ n ih => exact (steps_succ ((step_of_nil hs).trans (engineTurn_disabled hdisabled))).trans ih

/-- R344: with nothing scheduled a machine outside Running is quiescent after at most grace steps. -/
theorem steps_until_quiescent {g : Nat} {s : State} (hrun : s.run ≠ .running) (hs : s.schedule = []) (hg : s.grace = g) :
    ∃ t, steps g s = .next t ∧ t.run = s.run ∧ t.schedule = [] ∧ continuousEnabled t = false := by
  induction g generalizing s with
  | zero => exact ⟨s, rfl, rfl, hs, (continuousEnabled_eq_false_iff s).2 (.inr ⟨hrun, hg⟩)⟩
  | succ g ih =>
    cases henabled : continuousEnabled s with
    | false => exact ⟨s, steps_of_quiescent hs henabled _, rfl, hs, henabled⟩
    | true =>
      obtain ⟨hfault, -⟩ := (continuousEnabled_iff s).1 henabled
      obtain ⟨u, hu⟩ := step_answers_next s
      have hexec := hu
      rw [step_of_nil hs, engineTurn_of_lag hfault hrun (by omega)] at hexec
      obtain ⟨-, hrun', -, hgrace, hschedule, -⟩ := exec_keeps hexec
      obtain ⟨t, ht, htrun, hrest⟩ := ih (hrun' ▸ hrun) (hschedule.trans hs) (by rw [hgrace, setGrace_grace]; omega)
      exact ⟨t, (steps_succ hu).trans ht, htrun.trans hrun', hrest⟩

/-- Settles O40: every continuous step outside Running is paid for out of grace. -/
theorem pauseLagIsBounded : Obligations.PauseLagIsBounded := by
  refine ⟨fun n s hrun hresume => ?anyRun, fun s rest hrun hs => ?afterPause, fun s hrun hs => ?quiescent⟩
  case anyRun =>
    obtain ⟨t, ht, htrun, hsum⟩ := steps_grace n hrun hresume
    exact ⟨t, ht, htrun, by omega, fun _ => hsum,
      fun hall => (continuousEnabled_eq_false_iff t).2 (.inr ⟨htrun, by omega⟩)⟩
  case afterPause =>
    obtain ⟨t, ht, htrun, hle⟩ : ∃ t, step s = .next t ∧ t.run ≠ .running ∧ t.grace ≤ Config.pauseLag := by
      rcases hs with hs | hs
      · exact ⟨_, step_of_pause hs hrun, nofun, drawnLag_le s.draws⟩
      · exact ⟨_, step_of_windowClose hs hrun, nofun, drawnLag_le s.draws⟩
    refine ⟨t, ht, htrun, hle, fun n hresume => ?_⟩
    obtain ⟨_, -, -, hsum⟩ := steps_grace n htrun hresume
    omega
  case quiescent =>
    obtain ⟨t, ht, htrun, hnil, hdisabled⟩ := steps_until_quiescent hrun hs rfl
    exact ⟨t, ht, htrun, steps_of_quiescent hnil hdisabled⟩

/-! ### The Keyboard Bridge -/

/-- R331, R332, R336: outside Stopped a key event writes its word to the keyboard register. -/
theorem step_of_keyEvent {s : State} {e : Event} {rest : List Event} (hs : s.schedule = e :: rest)
    (hrun : s.run ≠ .stopped) (he : isKeyEvent e = true) :
    step s = .next (setRam (setSchedule s rest) (s.ram.write 24576 (keyEventWord e))) := by
  rw [step_of_cons hs]
  cases e with
  | keyDown k =>
    rcases keyDown_cases k (setSchedule s rest) with ⟨-, hstopped | hnone⟩ | ⟨-, v, hv, hkey⟩
    · exact absurd hstopped hrun
    · simp [isKeyEvent, hnone] at he
    · rw [applyEvent, hkey, writeKeyboard_eq, keyEventWord, hv]
      rfl
  | keyUp => exact congrArg Host.Outcome.next (keyUp_of_not_stopped (s := setSchedule s rest) hrun)
  | engine | load | run | pause | step | reset | setRate | windowClose | query | readState =>
    exact absurd he Bool.false_ne_true

/-- Settles O42: a key event's one write, read back. -/
theorem keyEventsWriteTheKeyboardRegister : Obligations.KeyEventsWriteTheKeyboardRegister := by
  intro s rest hwf hrun
  have hwrite : ∀ e, s.schedule = e :: rest → isKeyEvent e = true →
      ∃ m, step s = .next { s with ram := m, schedule := rest } ∧ m.read 24576 = keyEventWord e ∧
        ∀ addr, addr ≠ 24576 → m.read addr = s.ram.read addr := fun e hs he =>
    ⟨_, step_of_keyEvent hs hrun he, Memory.read_write_self _ hwf, fun _ haddr => Memory.read_write_other _ _ haddr.symm⟩
  refine ⟨fun k v hs hv => ?_, fun k hs hnone => ?_, fun hs => hwrite .keyUp hs rfl⟩
  · have h := hwrite (.keyDown k) hs (by simp [isKeyEvent, hv])
    rwa [keyEventWord, hv] at h
  · rcases keyDown_cases k (setSchedule s rest) with ⟨hkey, -⟩ | ⟨-, v, hv, -⟩
    · exact (step_of_cons hs).trans (congrArg Host.Outcome.next hkey)
    · exact nomatch hnone.symm.trans hv

/-- Settles O44: by induction on the key events; each writes the register over what the one before it wrote. -/
theorem lastKeyEventWins : Obligations.LastKeyEventWins := by
  intro s ks
  induction ks generalizing s with
  | nil => exact fun _ _ _ _ _ _ hlast => nomatch hlast
  | cons e ks ih =>
    intro rest last hwf hrun hs hkeys hlast
    have hstep := step_of_keyEvent (rest := ks ++ rest) hs hrun (hkeys e List.mem_cons_self)
    rw [List.length_cons, steps_succ hstep]
    cases ks with
    | nil =>
      obtain rfl : e = last := Option.some.inj hlast
      exact ⟨_, rfl, Memory.read_write_self _ hwf, fun _ haddr => Memory.read_write_other _ _ haddr.symm⟩
    | cons e' ks =>
      obtain ⟨m, hm, hself, hother⟩ := ih (setRam (setSchedule s (e' :: ks ++ rest)) (s.ram.write 24576 (keyEventWord e)))
        rest last (Memory.wf_write _ hwf (by decide)) hrun rfl (fun e he => hkeys e (List.mem_cons_of_mem _ he)) hlast
      exact ⟨m, hm, hself, fun addr haddr => (hother addr haddr).trans (Memory.read_write_other _ _ haddr.symm)⟩

/-- Settles O43: printable ASCII by its range, every other key by its entry. -/
theorem keyCodeTable : Obligations.KeyCodeTable := by
  refine ⟨fun c hlo hhi => ⟨_, if_pos ⟨hlo, hhi⟩, ?_⟩, fun c hc => if_neg (by omega), rfl, rfl, rfl, rfl, rfl, rfl, rfl, rfl,
    rfl, rfl, rfl, rfl, rfl, fun i => ⟨_, rfl, ?_⟩, rfl⟩
  · exact BitVec.toNat_setWidth_of_le (by decide)
  · have := i.isLt
    simp only [uint, BitVec.toNat_ofNat]
    omega

/-- Settles O45: 24576 is a RAM address and a jump target in range, so no check fires. -/
theorem programReadsAndWritesTheKeyboardRegister : Obligations.ProgramReadsAndWritesTheKeyboardRegister := by
  intro s ha hwf
  refine ⟨⟨_, exec_mkC_of_null true ⟨true, true, false, false, false, false⟩ 3 (alu_y _ _) fun _ => by omega, ?_, rfl⟩,
    fun a c u d j hd => ⟨_, exec_mkC_of_runsClean ⟨fun _ => by omega, fun _ => by omega⟩, ?_, rfl⟩⟩
  · rw [← ha]
    rfl
  · rw [← ha]
    exact afterC_read_self _ _ hwf hd

end Sys2Proof

namespace Sys2Proof.Machine

/-! ### The Screen Bridge -/

/-- R320, R321: the word and the bit of a pixel. -/
theorem pixels_eq (s : State) (x : Fin 512) (y : Fin 256) :
    pixels s x y = (s.ram.read (16384 + 32 * y.val + x.val / 16)).getLsbD (15 - x.val % 16) := rfl

/-- R322: the bridge publishes where the address lies in the screen region. -/
theorem onScreen_iff (addr : Nat) : onScreen addr = true ↔ 16384 ≤ addr ∧ addr < 24576 := by
  simp [onScreen]

/-- R320: a screen address is the address of its own row and word column, which lie on the 512 x 256 screen. -/
theorem screenAddr_row_col {addr : Nat} (h : onScreen addr = true) :
    addr = 16384 + 32 * screenRow addr + screenCol addr ∧ screenRow addr < 256 ∧ screenCol addr < 32 := by
  rw [onScreen_iff] at h
  simp only [screenRow, screenCol, screenBase]
  omega

/-- R320: the row and the word column of a pixel's address. -/
theorem screenRow_col_of_pixel (x : Fin 512) (y : Fin 256) :
    screenRow (16384 + 32 * y.val + x.val / 16) = y.val ∧ screenCol (16384 + 32 * y.val + x.val / 16) = x.val / 16 := by
  simp only [screenRow, screenCol, screenBase]
  omega

theorem publishedBy_onScreen {addr : Nat} (ram : Memory) (h : onScreen addr = true) :
    publishedBy ram addr = (List.range 16).map fun i =>
      ((16 * screenCol addr + i, screenRow addr), (ram.read addr).getLsbD (15 - i)) := if_pos h

/-- R321, R322: every entry published for a screen address is a pixel of that word, as the view shows it. -/
theorem pixel_of_mem_publishedBy {s : State} {addr : Nat} {p : (Nat × Nat) × Bool} (h : onScreen addr = true)
    (hp : p ∈ publishedBy s.ram addr) :
    ∃ (x : Fin 512) (y : Fin 256), p = ((x.val, y.val), pixels s x y) ∧ addr = 16384 + 32 * y.val + x.val / 16 := by
  obtain ⟨haddr, hrow, hcol⟩ := screenAddr_row_col h
  rw [publishedBy_onScreen s.ram h, List.mem_map] at hp
  obtain ⟨i, hi, rfl⟩ := hp
  have hlt : i < 16 := List.mem_range.1 hi
  have hword : (16 * screenCol addr + i) / 16 = screenCol addr := by omega
  have hbit : (16 * screenCol addr + i) % 16 = i := by omega
  refine ⟨⟨16 * screenCol addr + i, by omega⟩, ⟨screenRow addr, hrow⟩, ?_, ?_⟩
  · rw [pixels_eq, hword, hbit, ← haddr]
  · rw [hword, ← haddr]

/-- R321, R322: every pixel of the word at a screen address is published. -/
theorem mem_publishedBy_of_pixel (s : State) {addr : Nat} (h : onScreen addr = true) {x : Fin 512} {y : Fin 256}
    (haddr : addr = 16384 + 32 * y.val + x.val / 16) : ((x.val, y.val), pixels s x y) ∈ publishedBy s.ram addr := by
  rw [publishedBy_onScreen s.ram h, List.mem_map]
  subst haddr
  obtain ⟨hrow, hcol⟩ := screenRow_col_of_pixel x y
  refine ⟨x.val % 16, List.mem_range.2 (Nat.mod_lt _ (by decide)), ?_⟩
  rw [hrow, hcol, Nat.div_add_mod, pixels_eq]

end Sys2Proof.Machine

namespace Sys2Proof

open Sys2Proof.Machine

/-- Settles O46: x = 16 k + (15 - b) has word column k and bit b. -/
theorem pixelMap : Obligations.PixelMap := by
  refine ⟨fun s r k b => ?_, fun x => ⟨⟨x.val / 16, by omega⟩, ⟨15 - x.val % 16, by omega⟩, ?_⟩, fun r k => by omega⟩
  · have hcol : (16 * k.val + (15 - b.val)) / 16 = k.val := by omega
    have hbit : 15 - (16 * k.val + (15 - b.val)) % 16 = b.val := by omega
    rw [pixels_eq, hcol, hbit]
  · change x.val = 16 * (x.val / 16) + (15 - (15 - x.val % 16))
    omega

/-- Settles O47: a pixel reads the written word exactly where its word's address is the one written. -/
theorem screenWriteRepublishesItsSixteenPixels : Obligations.ScreenWriteRepublishesItsSixteenPixels := by
  refine ⟨fun s addr v x y hwf haddr => ?_, fun s addr hlo hhi => ?_, fun m addr hout => if_neg ?_⟩
  · rw [pixels_eq, memWrite_ram]
    split
    next heq => rw [← heq, Memory.read_write_self v hwf]
    next hne => rw [Memory.read_write_other s.ram v hne, pixels_eq]
  · have hon : onScreen addr = true := (onScreen_iff addr).2 ⟨hlo, hhi⟩
    refine ⟨?_, fun p hp => pixel_of_mem_publishedBy hon hp, fun x y heq => mem_publishedBy_of_pixel s hon heq⟩
    rw [publishedBy_onScreen s.ram hon, List.length_map, List.length_range]
  · rw [onScreen_iff]
    omega

/-! ### The host's duties -/

/-- R355: the one event that breaks a duty is a key-down of a key with no entry in the table. -/
theorem keepsDuty_eq_false_iff (e : Event) : keepsDuty e = false ↔ ∃ k, e = .keyDown k ∧ keyCode k = none := by
  cases e with
  | keyDown k => simp [keepsDuty]
  | engine | load | run | pause | step | reset | setRate | windowClose | keyUp | query | readState =>
    simp [keepsDuty]

/-- R333: the ASCII codes with no entry in the table. -/
theorem keyCode_ascii_eq_none_iff (c : BitVec 7) : keyCode (.ascii c) = none ↔ c.toNat < 32 ∨ c.toNat = 127 := by
  have := c.isLt
  simp only [keyCode, ite_eq_right_iff, reduceCtorEq, imp_false]
  omega

/-- R355: a run in which the host breaks no duty ends before the event that breaks one. -/
theorem le_length_of_keepsDuties {n : Nat} {s : State} {before after : List Event} {e : Event} (he : keepsDuty e = false)
    (hs : s.schedule = before ++ e :: after) (h : keepsDuties n s = true) : n ≤ before.length := by
  by_contra hlt
  have hmem : e ∈ s.schedule.take n := by
    rw [hs]
    exact List.mem_take_iff_getElem.2 ⟨before.length, by simp; omega, by simp⟩
  exact Bool.false_ne_true (he.symm.trans (List.all_eq_true.1 h e hmem))

/-- The runs of `n` steps from `s` are also runs from `s'`, but for the schedule of the state they reach. -/
def RunsAlike (n : Nat) (s s' : State) : Prop :=
  ∀ m t, m ≤ n → steps m s = .next t → ∃ es, steps m s' = .next (setSchedule t es)

theorem NoEndBefore.of_runsAlike {h n : Nat} {s s' : State} (hback : RunsAlike n s' s) (hs : NoEndBefore h n s) :
    NoEndBefore h n s' := by
  intro m t hpos hlt ht hend
  obtain ⟨es, hes⟩ := hback m t hlt.le ht
  exact hs m _ hpos hlt hes hend

theorem RunFaults.of_runsAlike {h n : Nat} {s s' : State} (halike : RunsAlike n s s') (hback : RunsAlike n s' s)
    (hs : RunFaults h n s) : RunFaults h n s' := by
  obtain ⟨t, ht, hfault, hend⟩ := hs
  obtain ⟨es, hes⟩ := halike n t (Nat.le_refl n) ht
  exact ⟨_, hes, hfault, hend.of_runsAlike hback⟩

theorem EndsAfter.of_runsAlike {h n : Nat} {s s' t : State} (halike : RunsAlike n s s') (hback : RunsAlike n s' s)
    (hs : EndsAfter h n s t) : ∃ es, EndsAfter h n s' (setSchedule t es) := by
  obtain ⟨hpos, ht, hended, hend⟩ := hs
  obtain ⟨es, hes⟩ := halike n t (Nat.le_refl n) ht
  exact ⟨es, hpos, hes, hended, hend.of_runsAlike hback⟩

/-- R64: a run does not depend on the events of the schedule that it does not reach. -/
theorem steps_of_same_start {n : Nat} {s t : State} {before after : List Event} (after' : List Event)
    (hs : s.schedule = before ++ after) (hn : n ≤ before.length) (h : steps n s = .next t) :
    steps n (setSchedule s (before ++ after')) = .next (setSchedule t (before.drop n ++ after')) := by
  induction n generalizing s before with
  | zero => cases h; rfl
  | succ n ih =>
    cases before with
    | nil => exact absurd hn (Nat.not_succ_le_zero n)
    | cons e before =>
      obtain ⟨u, hu⟩ := step_answers_next s
      rw [steps_succ hu] at h
      have hrest : u.schedule = before ++ after := (step_schedule hu).trans (hs ▸ rfl)
      rw [step_of_cons (rest := before ++ after) hs] at hu
      have hstep : step (setSchedule s (e :: before ++ after')) = .next (setSchedule u (before ++ after')) :=
        (step_of_cons rfl).trans (applyEvent_setSchedule (s := setSchedule s (before ++ after)) _ hu)
      exact (steps_succ hstep).trans (ih hrest (Nat.le_of_succ_le_succ hn) h)

theorem runsAlike_of_same_start {n : Nat} (s : State) {before : List Event} (after after' : List Event)
    (hn : n ≤ before.length) :
    RunsAlike n (setSchedule s (before ++ after)) (setSchedule s (before ++ after')) := fun _ _ hm ht =>
  ⟨_, steps_of_same_start (s := setSchedule s (before ++ after)) after' rfl (hm.trans hn) ht⟩

/-- R355: what follows an event that breaks a duty can be anything. -/
theorem ClaimHolds.of_broken_duty {h : Nat} {post : Word → Word → Memory → Prop} {s : State}
    {before after : List Event} {e : Event} (after' : List Event) (he : keepsDuty e = false)
    (hclaim : ClaimHolds h (fun t => t = setSchedule s (before ++ e :: after)) post) :
    ClaimHolds h (fun t => t = setSchedule s (before ++ e :: after')) post := by
  rintro _ rfl
  obtain ⟨hindex, hruns⟩ := hclaim _ rfl
  refine ⟨hindex, fun n hduties => ?_⟩
  have hn : n ≤ before.length := le_length_of_keepsDuties he rfl hduties
  have hduties' : keepsDuties n (setSchedule s (before ++ e :: after)) = true := by
    simpa only [keepsDuties, setSchedule_schedule, List.take_append_of_le_length hn] using hduties
  have halike := runsAlike_of_same_start s (e :: after') (e :: after) hn
  have hback := runsAlike_of_same_start s (e :: after) (e :: after') hn
  obtain ⟨hfaults, hends⟩ := hruns n hduties'
  refine ⟨fun hf => hfaults (hf.of_runsAlike halike hback), fun t hend => ?_⟩
  obtain ⟨es, hend'⟩ := hend.of_runsAlike halike hback
  exact hends (setSchedule t es) hend'

/-- Settles O57: a run of as many steps as keep the duties reaches neither the broken duty nor what follows it. -/
theorem claimsSayNothingPastABrokenDuty : Obligations.ClaimsSayNothingPastABrokenDuty := by
  refine ⟨keepsDuty_eq_false_iff, rfl, fun c => ?_, fun h post s before after after' e he =>
    ⟨.of_broken_duty after' he, .of_broken_duty after he⟩, fun h premise post hpremise s hs => ?_⟩
  · rw [← keyCode_ascii_eq_none_iff]
    exact Option.isSome_eq_false_iff.trans Option.isNone_iff_eq_none
  · obtain ⟨hindex, hsafe, e, rest, hschedule, he⟩ := hpremise s hs
    refine ⟨hindex, fun n hduties => ?_⟩
    obtain rfl : n = 0 := Nat.le_zero.1 (le_length_of_keepsDuties (before := []) he hschedule hduties)
    refine ⟨?_, fun t ⟨hpos, _⟩ => absurd hpos (Nat.lt_irrefl 0)⟩
    rintro ⟨_, ⟨⟩, hfault, -⟩
    exact hfault hsafe

end Sys2Proof

/-! PROOFS of the statements of 70_reset_and_hazards.md: the halt idiom, parked states and the end of a run, then power-on,
the reset() command and the Loader. -/

namespace Sys2Proof.Machine

/-! ### The two words of the halt idiom -/

/-- R130: at an index that holds its own number, below 32768, the A-instruction loads that number. -/
theorem decodeWord_ofNat {h : Nat} (hle : h ≤ 32766) : decodeWord (BitVec.ofNat 16 h) = .atV (BitVec.ofNat 16 h) := by
  refine decodeWord_eq_atV (Bool.eq_false_iff.2 fun hclass => ?_)
  have hge := (class_iff_le_toNat _).1 hclass
  rw [BitVec.toNat_ofNat] at hge
  omega

/-- R440: the word 0xEA87 is `0;JMP`. -/
theorem decodeWord_zeroJmp :
    decodeWord 0xEA87#16 =
      mkC false ⟨true, false, true, false, true, false⟩ 3 ⟨false, false, false⟩ ⟨true, true, true⟩ := rfl

/-- R222, R267: `0;JMP` goes to uint(A), where that is in range, and writes no register. -/
theorem exec_zeroJmp {s : State} (ha : uint s.a < 32768) :
    exec (decodeWord 0xEA87#16) s = .next (setPc s (BitVec.ofNat 15 (uint s.a))) := by
  have hout : alu ⟨true, false, true, false, true, false⟩ s.d (yOf false s) = 0 := rfl
  have htakes : Takes ⟨true, true, true⟩ (0 : Word) := .inr (.inl ⟨rfl, rfl⟩)
  rw [decodeWord_zeroJmp, exec_mkC_of_runsClean ⟨fun hor => by simp at hor, fun _ => ha⟩, hout]
  simp only [afterC, if_pos htakes]
  rfl

end Sys2Proof.Machine

namespace Sys2Proof

open Sys2Proof.Machine

/-! ### The loop of the halt idiom -/

/-- R342: in Running, without a fault and with nothing scheduled, the step executes ROM[PC]. -/
theorem step_of_running {s : State} (hfault : s.fault = none) (hrun : s.run = .running) (hs : s.schedule = []) :
    step s = exec (decodeWord (fetch s)) s :=
  (step_of_nil hs).trans (engineTurn_of_running hfault hrun)

/-- R440: what each step of the loop keeps: in the loop at h, without a fault, Running and with nothing scheduled. -/
structure RunsInHaltLoop (h : Nat) (s : State) : Prop where
  loop : InHaltLoop h s
  fault : s.fault = none
  run : s.run = .running
  schedule : s.schedule = []

theorem RunsInHaltLoop.endedAt {h : Nat} {s : State} (hs : RunsInHaltLoop h s) (hat : s.pc.toNat = h) : EndedAt h s :=
  ⟨hat, hs.fault, hs.run ▸ nofun⟩

/-- R440: each step in the loop leaves A = h, goes to the other one of the two indices, and writes nothing else. -/
theorem step_of_runsInHaltLoop {h : Nat} {s : State} (hs : RunsInHaltLoop h s) :
    step s = .next (setPc (setA s (BitVec.ofNat 16 h)) (BitVec.ofNat 15 (if s.pc.toNat = h then h + 1 else h))) := by
  obtain ⟨⟨hle, hload, hjump⟩, hpc⟩ := hs.loop
  rw [step_of_running hs.fault hs.run hs.schedule, fetch]
  by_cases hat : s.pc.toNat = h
  · rw [if_pos hat, hat, hload, decodeWord_ofNat hle, exec_atV, nextIndex_eq_ofNat, hat, Nat.mod_eq_of_lt (by omega)]
  · obtain ⟨hnext, ha⟩ := hpc.resolve_left hat
    have hself : setA s (BitVec.ofNat 16 h) = s :=
      congrArg (setA s) (BitVec.eq_of_toNat_eq (by rw [BitVec.toNat_ofNat, ← ha]; exact Nat.mod_eq_of_lt s.a.isLt))
    rw [if_neg hat, hnext, hjump, exec_zeroJmp (by omega), ha, hself]

/-- R440: the next state is in the loop again, at the other index, with A = h and the same D and stores. -/
theorem RunsInHaltLoop.next {h : Nat} {s : State} (hs : RunsInHaltLoop h s) :
    ∃ t, step s = .next t ∧ RunsInHaltLoop h t ∧ (t.d = s.d ∧ t.ram = s.ram ∧ t.rom = s.rom) ∧ uint t.a = h ∧
      t.pc.toNat = if s.pc.toNat = h then h + 1 else h := by
  obtain ⟨hidiom, -⟩ := hs.loop
  have hle : h ≤ 32766 := hidiom.1
  have ha : (BitVec.ofNat 16 h).toNat = h := by rw [BitVec.toNat_ofNat]; omega
  have hpc : (BitVec.ofNat 15 (if s.pc.toNat = h then h + 1 else h)).toNat = if s.pc.toNat = h then h + 1 else h := by
    rw [BitVec.toNat_ofNat]
    split <;> omega
  refine ⟨_, step_of_runsInHaltLoop hs, ⟨⟨hidiom, ?_⟩, hs.fault, hs.run, hs.schedule⟩, ⟨rfl, rfl, rfl⟩, ha, hpc⟩
  rw [setPc_pc, setPc_a, setA_a, hpc]
  split
  · exact .inr ⟨rfl, ha⟩
  · exact .inl rfl

/-- Settles O55: the loop keeps itself, and each of its steps goes to the other index. -/
theorem haltIdiomLoopsForever : Obligations.HaltIdiomLoopsForever := by
  intro h s hloop hfault hrun hschedule
  have hs : RunsInHaltLoop h s := ⟨hloop, hfault, hrun, hschedule⟩
  obtain ⟨t, ht, htloop, -, ha, hpc⟩ := hs.next
  refine ⟨fun n => ?anyRun, fun hat => ?fromH, fun hnext => ?fromNext⟩
  case anyRun =>
    have hkeep : ∀ u v, (RunsInHaltLoop h u ∧ u.d = s.d ∧ u.ram = s.ram ∧ u.rom = s.rom) → step u = .next v →
        RunsInHaltLoop h v ∧ v.d = s.d ∧ v.ram = s.ram ∧ v.rom = s.rom := by
      rintro u v ⟨hu, hd, hram, hrom⟩ hv
      obtain ⟨_, hv', hvloop, ⟨hvd, hvram, hvrom⟩, -⟩ := hu.next
      cases hv'.symm.trans hv
      exact ⟨hvloop, hvd.trans hd, hvram.trans hram, hvrom.trans hrom⟩
    obtain ⟨u, hu, huloop, hsame⟩ := steps_keep hkeep n ⟨hs, rfl, rfl, rfl⟩
    exact ⟨u, hu, huloop.loop, huloop.fault, huloop.run, huloop.schedule, hsame⟩
  case fromH =>
    rw [if_pos hat] at hpc
    exact ⟨hs.endedAt hat, t, ht, hpc, ha⟩
  case fromNext =>
    rw [if_neg (by omega)] at hpc
    exact ⟨t, ht, hpc, ha, htloop.endedAt hpc⟩

/-! ### Parked states -/

/-- R440: what a parked state is: no fault, and at PC a C-instruction with no destination that jumps to its own index, its M
read in range. -/
theorem parked_iff (s : State) :
    parked s = true ↔ s.fault = none ∧ (fetch s).getLsbD 15 = true ∧ destOf (fetch s) = ⟨false, false, false⟩ ∧
      uint s.a = s.pc.toNat ∧ ((fetch s).getLsbD 12 = true → uint s.a < 24577) ∧
      Takes (jumpOf (fetch s)) (alu (ctrlOf (fetch s)) s.d (yOf ((fetch s).getLsbD 12) s)) := by
  simp only [parked, parkedWord, decodeFields, operandX, Bool.and_eq_true, Option.isNone_iff_eq_none, decide_eq_true_eq,
    and_assoc]
  cases (fetch s).getLsbD 12 with
  | false => simp [operandY_false, jumpTaken_iff, Takes, yOf]
  | true =>
    cases hvalid : ramValid s.a with
    | false => simp [operandY_true_of_invalid hvalid, (ramValid_eq_false_iff _).1 hvalid]
    | true => simp [operandY_true_of_valid hvalid, (ramValid_iff _).1 hvalid, jumpTaken_iff, Takes, yOf]

/-- R140, R150, R154: the instruction at PC of a parked state leaves every piece of state as it was. -/
theorem exec_of_parked {s : State} (h : parked s = true) : exec (decodeWord (fetch s)) s = .next s := by
  obtain ⟨-, hclass, hdest, ha, hread, htakes⟩ := (parked_iff s).1 h
  have hclean : RunsClean ((fetch s).getLsbD 12) ⟨false, false, false⟩ (jumpOf (fetch s))
      (alu (ctrlOf (fetch s)) s.d (yOf ((fetch s).getLsbD 12) s)) s :=
    ⟨fun hor => hread (hor.resolve_right Bool.false_ne_true), fun _ => ha ▸ s.pc.isLt⟩
  rw [decodeWord_of_class hclass, hdest, exec_mkC_of_runsClean hclean, afterC_jump_to_self htakes ha]

/-- R440: in Running with nothing scheduled a parked state is the next state of itself. -/
theorem step_of_parked {s : State} (h : parked s = true) (hrun : s.run = .running) (hs : s.schedule = []) :
    step s = .next s :=
  (step_of_running ((parked_iff s).1 h).1 hrun hs).trans (exec_of_parked h)

/-- Settles O54: the instruction at PC is all that the engine or the host's `step()` executes. -/
theorem parkedStateIsUnchanged : Obligations.ParkedStateIsUnchanged := by
  intro s h
  refine ⟨exec_of_parked h, fun hrun hs n => ?_, fun rest hrun hs => ?_⟩
  · induction n with
    | zero => rfl
    | succ n ih => exact (steps_succ (step_of_parked h hrun hs)).trans ih
  · obtain ⟨hfault, -⟩ := (parked_iff s).1 h
    have hstep := stepCommand_of_enabled (s := setSchedule s rest) hrun hfault
    exact (step_of_cons hs).trans (hstep.trans (exec_of_parked (s := setSchedule s rest) h))

/-! ### The end of a run -/

/-- A run of m + n steps is a run of n from where m steps end. -/
theorem steps_add {m : Nat} {s t : State} (n : Nat) (h : steps m s = .next t) : steps (m + n) s = steps n t := by
  induction m generalizing s with
  | zero => cases h; rw [Nat.zero_add]
  | succ m ih =>
    obtain ⟨u, hu⟩ := step_answers_next s
    rw [steps_succ hu] at h
    rw [Nat.succ_add, steps_succ hu, ih h]

/-- R441: no state of a run ends it that comes at or after a state with a fault or in Stopped (R304, R346). -/
theorem not_endedAt_of_faulted_or_stopped {h : Nat} {s t : State} (n : Nat) (hs : s.fault ≠ none ∨ s.run = .stopped)
    (ht : steps n s = .next t) : ¬ EndedAt h t := by
  have hkeep : ∀ u v, (u.fault ≠ none ∨ u.run = .stopped) → step u = .next v → v.fault ≠ none ∨ v.run = .stopped := by
    rintro u v (hfault | hstopped) hv
    · obtain ⟨f, hf⟩ := Option.ne_none_iff_exists'.1 hfault
      exact .inl (step_keeps_fault hf hv ▸ Option.some_ne_none f)
    · exact .inr (step_of_stopped hstopped hv).1
  obtain ⟨t', ht', hdead⟩ := steps_keep hkeep n hs
  cases ht'.symm.trans ht
  rintro ⟨-, hfault, hrun⟩
  exact hdead.elim (absurd hfault) hrun

/-- R441: an end comes no later than any other state of the run that could be its end. -/
theorem EndsAfter.le {h n m : Nat} {s t u : State} (hend : EndsAfter h n s t) (hpos : 0 < m)
    (hu : steps m s = .next u) (hended : EndedAt h u) : n ≤ m := by
  obtain ⟨-, -, -, hnone⟩ := hend
  by_contra hlt
  exact hnone m u hpos (Nat.not_le.1 hlt) hu hended

/-- R441: the end of a run is its first. -/
theorem EndsAfter.unique {h n n' : Nat} {s t t' : State} (hend : EndsAfter h n s t) (hend' : EndsAfter h n' s t') :
    n = n' ∧ t = t' := by
  have ⟨hpos, ht, hended, _⟩ := hend
  have ⟨hpos', ht', hended', _⟩ := hend'
  obtain rfl : n = n' := Nat.le_antisymm (hend.le hpos' ht' hended') (hend'.le hpos ht hended)
  exact ⟨rfl, Host.Outcome.next.inj (ht.symm.trans ht')⟩

/-- R441: a run that reaches a fault before an end never ends. -/
theorem RunFaults.not_endsAfter {h k n : Nat} {s t : State} (hfaults : RunFaults h k s) : ¬ EndsAfter h n s t := by
  rintro ⟨hpos, ht, hended, -⟩
  obtain ⟨u, hu, hunsafe, hnone⟩ := hfaults
  rcases Nat.lt_or_ge n k with hlt | hge
  · exact hnone n t hpos hlt ht hended
  · obtain ⟨m, rfl⟩ := Nat.exists_eq_add_of_le hge
    exact not_endedAt_of_faulted_or_stopped m (.inl hunsafe) (steps_add m hu ▸ ht) hended

/-- R441: a run whose first event brings it to h, without a fault and not Stopped, ends there. -/
theorem endsAfter_one {h : Nat} {s t : State} (ht : step s = .next t) (hended : EndedAt h t) : EndsAfter h 1 s t :=
  ⟨Nat.one_pos, steps_succ ht, hended, fun _ _ hpos hlt => absurd hpos (Nat.not_lt.2 (Nat.le_of_lt_succ hlt))⟩

/-- R441: a first event that does not end the run puts off its end by one. -/
theorem EndsAfter.succ {h n : Nat} {s t u : State} (hu : step s = .next u) (hnot : ¬ EndedAt h u)
    (hend : EndsAfter h n u t) : EndsAfter h (n + 1) s t := by
  obtain ⟨-, ht, hended, hnone⟩ := hend
  refine ⟨Nat.succ_pos n, (steps_succ hu).trans ht, hended, fun m v hpos hlt hv => ?_⟩
  obtain ⟨m, rfl⟩ := Nat.exists_eq_succ_of_ne_zero hpos.ne'
  rw [steps_succ hu] at hv
  rcases Nat.eq_zero_or_pos m with rfl | hm
  · cases hv
    exact hnot
  · exact hnone m v hm (Nat.lt_of_succ_lt_succ hlt) hv

/-- R440, R441: in the loop of the halt idiom a run ends at its first return to h, with D and RAM unchanged. -/
theorem RunsInHaltLoop.endsAfter {h : Nat} {s : State} (hs : RunsInHaltLoop h s) :
    ∃ t, EndsAfter h (if s.pc.toNat = h then 2 else 1) s t ∧ uint t.a = h ∧ t.d = s.d ∧ t.ram = s.ram := by
  obtain ⟨t, ht, htloop, ⟨htd, htram, -⟩, hta, htpc⟩ := hs.next
  by_cases hat : s.pc.toNat = h
  · rw [if_pos hat] at htpc ⊢
    obtain ⟨u, hu, huloop, ⟨hud, huram, -⟩, hua, hupc⟩ := htloop.next
    rw [if_neg (by omega)] at hupc
    have hnot : ¬ EndedAt h t := fun hended => absurd hended.1 (by omega)
    exact ⟨u, (endsAfter_one hu (huloop.endedAt hupc)).succ ht hnot, hua, hud.trans htd, huram.trans htram⟩
  · rw [if_neg hat] at htpc ⊢
    exact ⟨t, endsAfter_one ht (htloop.endedAt htpc), hta, htd, htram⟩

/-- Settles O56: an end is the first state that could be one, and none comes after a fault or in Stopped. -/
theorem endOfRunIsItsFirst : Obligations.EndOfRunIsItsFirst := by
  intro h s
  refine ⟨fun n n' t t' => EndsAfter.unique, fun hdead n t ⟨_, ht, hended, _⟩ => ?dead, fun k hfaults => ?faults,
    fun premise post n t hs hclaim hend hduties => ?claim, fun hloop hfault hrun hs => ?haltLoop,
    fun hparked hpc hrun hs => ?parked⟩
  case dead => exact not_endedAt_of_faulted_or_stopped n hdead ht hended
  case faults =>
    refine ⟨fun n t => hfaults.not_endsAfter, fun hduties premise post hs hclaim => ?_⟩
    obtain ⟨-, hruns⟩ := hclaim s hs
    obtain ⟨hnot, -⟩ := hruns k hduties
    exact hnot hfaults
  case claim =>
    obtain ⟨-, hruns⟩ := hclaim s hs
    obtain ⟨-, hpost⟩ := hruns n hduties
    exact hpost t hend
  case haltLoop => exact ⟨.inl hloop.1, RunsInHaltLoop.endsAfter ⟨hloop, hfault, hrun, hs⟩⟩
  case parked =>
    obtain ⟨hfault, -⟩ := (parked_iff s).1 hparked
    exact ⟨.inr ⟨s, rfl, hpc, hparked⟩, endsAfter_one (step_of_parked hparked hrun hs) ⟨hpc, hfault, hrun ▸ nofun⟩⟩

end Sys2Proof

namespace Sys2Proof.Machine

/-! ### The reset() command -/

theorem resetCommand_of_not_stopped {s : State} (hrun : s.run ≠ .stopped) : resetCommand s = resetMachine s := by
  unfold resetCommand
  split
  next => rfl
  next => rfl
  next h => exact absurd h hrun

/-- R401: outside Stopped `reset()` resets the machine. -/
theorem step_of_reset {s : State} {rest : List Event} (hs : s.schedule = .reset :: rest) (hrun : s.run ≠ .stopped) :
    step s = .next (resetMachine (setSchedule s rest)) :=
  (step_of_cons hs).trans (congrArg Host.Outcome.next (resetCommand_of_not_stopped (s := setSchedule s rest) hrun))

/-- R39: the Words of RAM after `reset()`. -/
theorem read_resetMachine (s : State) (addr : Nat) :
    (resetMachine s).ram.read addr =
      if Config.resetClearsScreen = true ∧ 16384 ≤ addr ∧ addr < 24576 then 0x0000 else s.ram.read addr := by
  rw [resetMachine_eq]
  cases Config.resetClearsScreen with
  | false => simp
  | true => simp [Memory.read_clear]

/-- R39, R321: a screen that `reset()` clears shows no lit pixel. -/
theorem pixels_resetMachine (s : State) (x : Fin 512) (y : Fin 256) (hclears : Config.resetClearsScreen = true) :
    pixels (resetMachine s) x y = false := by
  have hlo : 16384 ≤ 16384 + 32 * y.val + x.val / 16 := by omega
  have hhi : 16384 + 32 * y.val + x.val / 16 < 24576 := by omega
  rw [pixels_eq, read_resetMachine, if_pos ⟨hclears, hlo, hhi⟩]
  exact BitVec.getLsbD_zero

end Sys2Proof.Machine

namespace Sys2Proof

open Sys2Proof.Machine

/-- Settles O52: the fields of the reset state, and its first step, which fetches 0x0000, the instruction `@0`. -/
theorem powerOnState : Obligations.PowerOnState := by
  refine ⟨rfl, rfl, rfl, fun _ => rfl, fun _ => rfl, rfl, rfl, Nat.succ_pos _, rfl, rfl, rfl, fun rest => ⟨?run, ?step⟩⟩
  case run => exact ⟨_, step_of_cons (e := .run) (rest := rest) rfl, rfl, rfl, rfl⟩
  case step =>
    have hstep := step_of_cons (s := setSchedule State.reset (.step :: rest)) (e := .step) (rest := rest) rfl
    have hexec : stepCommand (setSchedule State.reset rest) = exec (.atV 0) (setSchedule State.reset rest) :=
      (stepCommand_of_enabled (s := setSchedule State.reset rest) nofun rfl).trans
        (congrArg (exec · _) (decodeWord_ofNat (Nat.zero_le _)))
    exact ⟨_, hstep.trans hexec, rfl, rfl⟩

/-- Settles O53: the step is the one equation of `reset()`, whose RAM is read word by word. -/
theorem resetCommandEffect : Obligations.ResetCommandEffect := by
  intro s rest hs
  refine ⟨fun hrun => (step_of_cons hs).trans (applyEvent_of_stopped (s := setSchedule s rest) hrun nofun),
    fun hrun => ⟨_, step_of_reset hs hrun, ?_⟩⟩
  have henabled : s.run = .running → s.fault = none →
      continuousEnabled (resetMachine (setSchedule s rest)) = true := fun hrunning hfault => by
    rw [continuousEnabled_iff, resetMachine_eq]
    exact ⟨hfault, .inl hrunning⟩
  have hread := read_resetMachine (setSchedule s rest)
  have hpixels := pixels_resetMachine (setSchedule s rest)
  rw [resetMachine_eq] at henabled hread hpixels ⊢
  exact ⟨rfl, rfl, rfl, hread, hpixels, rfl, rfl, rfl, rfl, rfl, rfl, henabled⟩

end Sys2Proof

namespace Sys2Proof.Machine

/-! ### The Loader: a path and its extension -/

/-- R410: the loader's test of a path is that it ends in the extension. -/
theorem hasExtension_iff (path ext : String) : hasExtension path ext = true ↔ EndsIn path ext := by
  rw [hasExtension, List.isSuffixOf_iff_suffix]
  exact exists_congr fun _ => eq_comm

/-- R414: no path ends in both extensions, which differ in their last character. -/
theorem not_endsIn_bin_of_endsIn_hack {path : String} (h : EndsIn path ".hack") : ¬ EndsIn path ".bin" := by
  rintro ⟨stem', hbin⟩
  obtain ⟨stem, hhack⟩ := h
  have hlast := congrArg List.getLast? (hhack.symm.trans hbin)
  simp at hlast

theorem loadImage_of_bin {path : String} (bytes : List Byte) (h : EndsIn path ".bin") :
    loadImage ⟨path, some bytes⟩ = some (imageOf (parseBin bytes)) :=
  if_pos ((hasExtension_iff _ _).2 h)

theorem loadImage_of_hack {path : String} (bytes : List Byte) (h : EndsIn path ".hack") :
    loadImage ⟨path, some bytes⟩ = some (imageOf (parseHack bytes)) :=
  (if_neg fun hbin => not_endsIn_bin_of_endsIn_hack h ((hasExtension_iff _ _).1 hbin)).trans
    (if_pos ((hasExtension_iff _ _).2 h))

/-- R414: the two cases in which a load fails. -/
theorem loadImage_eq_none_iff (file : HostFile) :
    loadImage file = none ↔ file.bytes = none ∨ (¬ EndsIn file.path ".bin" ∧ ¬ EndsIn file.path ".hack") := by
  rw [← hasExtension_iff, ← hasExtension_iff]
  unfold loadImage
  cases file.bytes with
  | none => simp
  | some bytes => simp only [reduceCtorEq, false_or]; split_ifs <;> simp_all

/-! ### The Loader: the .bin format -/

/-- R411: a Word's low byte is the first of its two, its high byte the second. -/
theorem wordOfBytes_eq (lo hi : Byte) : wordOfBytes lo hi = lo.setWidth 16 ||| (hi.setWidth 16 <<< 8) := by
  apply BitVec.eq_of_getLsbD_eq
  intro i hlt
  simp only [wordOfBytes, BitVec.getLsbD_append, BitVec.getLsbD_or, BitVec.getLsbD_shiftLeft, BitVec.getLsbD_setWidth]
  by_cases h : i < 8
  · simp [h, hlt]
  · have hlow : lo.getLsbD i = false := BitVec.getLsbD_of_ge lo i (Nat.not_lt.1 h)
    have hhigh : i - 8 < 16 := by omega
    simp [h, hlt, hlow, hhigh]

/-- R411: the Words of a .bin file are its pairs of bytes, a final odd byte left out. -/
theorem getD_parseBin (bytes : List Byte) (i : Nat) :
    (parseBin bytes).getD i 0 =
      if i < bytes.length / 2 then wordOfBytes (bytes.getD (2 * i) 0) (bytes.getD (2 * i + 1) 0) else 0 := by
  induction bytes using parseBin.induct generalizing i with
  | case1 lo hi rest ih =>
    cases i with
    | zero => simp [parseBin]
    | succ i =>
      have hlen : (i + 1 < (lo :: hi :: rest).length / 2) ↔ i < rest.length / 2 := by simp only [List.length_cons]; omega
      simp only [hlen]
      exact ih i
  | case2 b => simp [parseBin]
  | case3 => simp [parseBin]

/-! ### The Loader: the lines of a .hack file -/

/-- R412: an LF ends the line before it. -/
theorem splitLines_append_lf {line : List Byte} (rest : List Byte) (h : byteLf ∉ line) :
    splitLines (line ++ byteLf :: rest) = line :: splitLines rest := by
  induction line with
  | nil => simp [splitLines]
  | cons b line ih =>
    have hb : b ≠ byteLf := (List.ne_of_not_mem_cons h).symm
    simp [splitLines, ih (List.not_mem_of_not_mem_cons h), hb]

/-- R412: the last line need not end with an LF. -/
theorem splitLines_of_not_mem {line : List Byte} (h : byteLf ∉ line) : splitLines line = [line] := by
  induction line with
  | nil => rfl
  | cons b line ih =>
    have hb : b ≠ byteLf := (List.ne_of_not_mem_cons h).symm
    simp [splitLines, ih (List.not_mem_of_not_mem_cons h), hb]

theorem parseHack_append_lf {line : List Byte} (rest : List Byte) (h : byteLf ∉ line) :
    parseHack (line ++ byteLf :: rest) = (acceptLine (stripCr line)).toList ++ parseHack rest := by
  rw [parseHack, splitLines_append_lf rest h, List.filterMap_cons]
  cases acceptLine (stripCr line) <;> rfl

theorem parseHack_of_not_mem {line : List Byte} (h : byteLf ∉ line) :
    parseHack line = (acceptLine (stripCr line)).toList := by
  rw [parseHack, splitLines_of_not_mem h, List.filterMap_cons]
  cases acceptLine (stripCr line) <;> rfl

/-! ### The Loader: the Word of a line -/

/-- R412: bit i of a line's Word is set where the character i places from the line's end is '1'. -/
theorem getLsbD_wordOfLine (line : List Byte) (i : Nat) :
    (wordOfLine line).getLsbD i = (decide (i < 16) && decide (line.reverse[i]? = some byteOne)) := by
  induction line using List.reverseRecOn generalizing i with
  | nil => simp [wordOfLine]
  | append_singleton line b ih =>
    have hword : wordOfLine (line ++ [b]) = (wordOfLine line <<< 1) ||| (if b = byteOne then 1 else 0) := by
      simp [wordOfLine]
    rw [hword, BitVec.getLsbD_or, BitVec.getLsbD_shiftLeft, List.reverse_append]
    cases i with
    | zero => by_cases hb : b = byteOne <;> simp [hb]
    | succ i =>
      have hlast : (if b = byteOne then 1 else 0 : Word).getLsbD (i + 1) = false := by split <;> simp
      rw [hlast, ih]
      by_cases hi : i + 1 < 16
      · simp [hi, Nat.lt_of_succ_lt hi]
      · simp [hi]

theorem isBinaryDigit_iff (b : Byte) : isBinaryDigit b = true ↔ b = byteZero ∨ b = byteOne := by
  simp [isBinaryDigit]

theorem length_hackLine (w : Word) : (hackLine w).length = 16 := by simp [hackLine]

theorem getElem_hackLine (w : Word) {i : Nat} (hi : i < (hackLine w).length) :
    (hackLine w)[i] = if w.getLsbD (15 - i) then byteOne else byteZero := by
  simp [hackLine, byteOne, byteZero]

theorem isBinaryDigit_of_mem_hackLine {w : Word} {b : Byte} (h : b ∈ hackLine w) : isBinaryDigit b = true := by
  obtain ⟨i, hi, rfl⟩ := List.getElem_of_mem h
  rw [getElem_hackLine]
  split <;> rfl

theorem wordOfLine_hackLine (w : Word) : wordOfLine (hackLine w) = w := by
  apply BitVec.eq_of_getLsbD_eq
  intro i hi
  have hlen := length_hackLine w
  have hbit : 15 - (16 - 1 - i) = i := by omega
  rw [getLsbD_wordOfLine, List.getElem?_reverse (by omega), List.getElem?_eq_getElem (by omega), getElem_hackLine]
  simp [hlen, hbit, hi, byteOne, byteZero]

/-- R412: a line of 16 binary digits is the line of its Word. -/
theorem hackLine_wordOfLine {line : List Byte} (hlen : line.length = 16) (hdigits : line.all isBinaryDigit = true) :
    hackLine (wordOfLine line) = line := by
  refine List.ext_getElem ((length_hackLine _).trans hlen.symm) fun i hi hi' => ?_
  have hdigit := List.all_eq_true.1 hdigits _ (List.getElem_mem hi')
  have hindex : line.length - 1 - (15 - i) = i := by omega
  rw [getElem_hackLine, getLsbD_wordOfLine, List.getElem?_reverse (by omega), List.getElem?_eq_getElem (by omega)]
  simp only [hindex]
  rcases (isBinaryDigit_iff _).1 hdigit with hb | hb
  · simp [hb, byteOne, byteZero]
  · have : 15 - i < 16 := by omega
    simp [hb, this]

theorem acceptLine_eq_some_iff (line : List Byte) (w : Word) : acceptLine line = some w ↔ line = hackLine w := by
  constructor
  · intro h
    obtain ⟨⟨hlen, hdigits⟩, hword⟩ := Option.ite_none_right_eq_some.1 h
    rw [← Option.some.inj hword, hackLine_wordOfLine hlen hdigits]
  · rintro rfl
    have hdigits : (hackLine w).all isBinaryDigit = true :=
      List.all_eq_true.2 fun _ => isBinaryDigit_of_mem_hackLine
    exact (if_pos ⟨length_hackLine w, hdigits⟩).trans (congrArg some (wordOfLine_hackLine w))

theorem byteCr_not_mem_hackLine (w : Word) : byteCr ∉ hackLine w := fun h =>
  absurd (isBinaryDigit_of_mem_hackLine h) (by decide)

/-- R412: with at most one CR removed at its end, a line is the digits of a Word exactly where it is those digits, or those
digits and a CR. -/
theorem stripCr_eq_hackLine_iff (line : List Byte) (w : Word) :
    stripCr line = hackLine w ↔ line = hackLine w ∨ line = hackLine w ++ [byteCr] := by
  unfold stripCr
  split
  next hlast =>
    obtain ⟨body, rfl⟩ := List.getLast?_eq_some_iff.1 hlast
    have hne : body ++ [byteCr] ≠ hackLine w := fun h =>
      byteCr_not_mem_hackLine w (h ▸ List.mem_append_right body (List.mem_singleton_self byteCr))
    simp [hne]
  next hlast =>
    have hne : line ≠ hackLine w ++ [byteCr] := by
      rintro rfl
      simp at hlast
    simp [hne]

/-- R412: the lines a Word is read from. -/
theorem acceptLine_stripCr_eq_some_iff (line : List Byte) (w : Word) :
    acceptLine (stripCr line) = some w ↔ line = hackLine w ∨ line = hackLine w ++ [byteCr] := by
  rw [acceptLine_eq_some_iff, stripCr_eq_hackLine_iff]

/-- R410, R414: an image is 0x0000 beyond the Instruction Store's size. -/
theorem read_loadImage_beyond {file : HostFile} {m : Memory} (h : loadImage file = some m) {i : Nat} (hi : 32768 ≤ i) :
    m.read i = 0x0000 := Memory.read_beyond (loadImage_wf h) hi

/-! ### The commit of a load -/

theorem loadFile_of_parsed {file : HostFile} {image : Memory} {s : State} (hrun : s.run ≠ .stopped)
    (h : loadImage file = some image) : loadFile file s = setRom s image := by
  cases hs : s.run <;> simp_all [loadFile]

theorem loadFile_of_not_parsed {file : HostFile} (s : State) (h : loadImage file = none) : loadFile file s = s := by
  cases hs : s.run <;> simp [loadFile, hs, h]

theorem reply_load {s : State} (file : HostFile) (hrun : s.run ≠ .stopped) :
    reply (.load file) s = if (loadImage file).isSome then .loaded else .loadError := if_neg hrun

end Sys2Proof.Machine

namespace Sys2Proof

open Sys2Proof.Machine

/-- Settles O48: the image reads the pairs of bytes, as many as the file and the store both have. -/
theorem binImageFormat : Obligations.BinImageFormat := by
  intro path bytes hpath
  refine ⟨_, loadImage_of_bin bytes hpath, imageOf_wf _, fun i => ?_⟩
  rw [read_imageOf, getD_parseBin, wordOfBytes_eq, ← ite_and]
  simp only [Nat.lt_min]

/-- Settles O49: a line is accepted exactly where it is the digits of a Word, with at most one CR after them. -/
theorem hackImageFormat : Obligations.HackImageFormat := by
  refine ⟨fun line rest hlf => ?lines, fun path bytes hpath => ?image, fun path hpath => ?empty,
    fun path bytes m h i hi => read_loadImage_beyond h hi⟩
  case lines =>
    have happend := parseHack_append_lf rest hlf
    have halone := parseHack_of_not_mem hlf
    refine ⟨fun w hline => ?_, fun hline => ?_⟩
    · rw [(acceptLine_stripCr_eq_some_iff line w).2 hline] at happend halone
      exact ⟨happend, halone⟩
    · have hskip : acceptLine (stripCr line) = none := Option.eq_none_iff_forall_ne_some.2 fun w h =>
        ((acceptLine_stripCr_eq_some_iff line w).1 h).elim (hline w).1 (hline w).2
      rw [hskip] at happend halone
      exact ⟨happend, halone⟩
  case image => exact ⟨_, loadImage_of_hack bytes hpath, imageOf_wf _, read_imageOf _⟩
  case empty =>
    rcases hpath with hbin | hhack
    · exact loadImage_of_bin [] hbin
    · exact loadImage_of_hack [] hhack

/-- Settles O50: by the extension tests of the loader. -/
theorem loadErrorExactlyWhen : Obligations.LoadErrorExactlyWhen := loadImage_eq_none_iff

/-- Settles O51: the step is the load in the state without its own event. -/
theorem loadCommitsTheStoreOnly : Obligations.LoadCommitsTheStoreOnly := by
  intro s file rest hs
  refine ⟨fun image hrun himage => ⟨(step_of_cons hs).trans ?_, ?_⟩, fun hrun hnone => ⟨(step_of_cons hs).trans ?_, ?_⟩,
    fun hrun => (step_of_cons hs).trans (applyEvent_of_stopped (s := setSchedule s rest) hrun nofun)⟩
  · exact congrArg Host.Outcome.next (loadFile_of_parsed (s := setSchedule s rest) hrun himage)
  · rw [reply_load file hrun, himage]
    rfl
  · exact congrArg Host.Outcome.next (loadFile_of_not_parsed (setSchedule s rest) hnone)
  · rw [reply_load file hrun, hnone]
    rfl

end Sys2Proof
